-- ==== Sys2Proof/Word.lean ====
section
/-! DEFINITION. The bit-vector types of 00_scope.md R15, and the byte numbering of R10. -/

namespace Sys2Proof

/-- `Byte`: 8-bit unsigned (R15). -/
abbrev Byte := BitVec 8
/-- `Word`: 32-bit unsigned, the width of every register (R8, R15). -/
abbrev Word := BitVec 32
/-- `Bank`: integer 0..15 of which 0..10 are valid (R15, R51). -/
abbrev Bank := BitVec 4
/-- `Code7`: a current or duty code, 0..127 (R15). -/
abbrev Code7 := BitVec 7
/-- `Code8`: a timing code, 0..255 (R15). -/
abbrev Code8 := BitVec 8
/-- `Sel2`: the chopping-frequency selector, 0..3 (R15). -/
abbrev Sel2 := BitVec 2
/-- `Nib`: a 4-bit code, 0..15 (R15). -/
abbrev Nib := BitVec 4

end Sys2Proof
end

