-- ==== Sys2Proof/Syntax.lean ====
section
/-! DEFINITION. The value types of 00_scope.md R15 and the operations of spec/opcode_table.json: `Instr` has one
constructor per row. -/

namespace Sys2Proof

/-- `Level` of a line, logical sense (R15, R25). -/
inductive Level where
  | asserted | deasserted
deriving DecidableEq, Repr, Inhabited

/-- `PairMode`; the fourth value exists so that unpacking is total (R15, R152). -/
inductive PairMode where
  | independent | parallel | hBridge | reserved3
deriving DecidableEq, Repr

/-- `ClockBase`, the master-clock selection (R15, R32). -/
inductive ClockBase where
  | base100k | base80k
deriving DecidableEq, Repr

/-- `DriveMode` (R15, R34). -/
inductive DriveMode where
  | current | voltage
deriving DecidableEq, Repr

/-- `SideMode` (R15, R34). -/
inductive SideMode where
  | lowSide | highSide
deriving DecidableEq, Repr

/-- `Trigger`, the trigger source (R15, R34). -/
inductive Trigger where
  | spi | externalPin
deriving DecidableEq, Repr

/-- `pair_mode: array[4] of PairMode`; `p k` is the mode of channels 2k and 2k+1 (R15, R32). -/
structure PairModes where
  p0 : PairMode
  p1 : PairMode
  p2 : PairMode
  p3 : PairMode
deriving DecidableEq, Repr

/-- `StatusWord`, the fields of register STATUS (R15, R32). -/
structure StatusWord where
  channelsOn   : Byte
  faultMask    : BitVec 7
  clockBase    : ClockBase
  pairMode     : PairModes
  faultFlags   : BitVec 7
  globalEnable : Bool
deriving DecidableEq, Repr

/-- `ChannelRaw`, the fields of a register CFG_CH as codes (R15, R34). -/
structure ChannelRaw where
  halfScale       : Bool
  holdCode        : Code7
  trigger         : Trigger
  hitCode         : Code7
  hitTimeCode     : Code8
  driveMode       : DriveMode
  sideMode        : SideMode
  chopSel         : Sel2
  slewRateControl : Bool
  openLoadEn      : Bool
  plungerDetectEn : Bool
  hitCheckEn      : Bool
deriving DecidableEq, Repr

/-- `EngValue`: an exact rational, or the one value that stands for any non-finite input (R11, R15). -/
inductive EngValue where
  | finite (q : Rat)
  | nonFinite
deriving DecidableEq, Repr

/-- `ChannelConfig`: `ChannelRaw` with the code fields in engineering units (R15): milliamps when `driveMode` is
`current`, percent when it is `voltage`, and milliseconds. -/
structure ChannelConfig where
  halfScale       : Bool
  holdSetpoint    : EngValue
  trigger         : Trigger
  hitSetpoint     : EngValue
  hitTimeMs       : EngValue
  driveMode       : DriveMode
  sideMode        : SideMode
  chopSel         : Sel2
  slewRateControl : Bool
  openLoadEn      : Bool
  plungerDetectEn : Bool
  hitCheckEn      : Bool
deriving DecidableEq, Repr

/-- `ConvContext`: what a conversion needs beside the word (R15, R228). -/
structure ConvContext where
  fullScaleMa : Rat
  clockBase   : ClockBase
deriving DecidableEq, Repr

/-- `FaultWord`: four per-channel masks, bit N = channel N (R15, R36). -/
structure FaultWord where
  overcurrent     : Byte
  hitNotReached   : Byte
  openLoad        : Byte
  plungerMovement : Byte
deriving DecidableEq, Repr

/-- `DpmConfig`: the three raw plunger-detection codes (R15, R37). -/
structure DpmConfig where
  startCurrentCode : Code7
  debounceCode     : Nib
  dipThresholdCode : Nib
deriving DecidableEq, Repr

/-- `BoardScale`; a full-scale current of 0 means unset (R15, R30). -/
structure BoardScale where
  fullScaleMa  : Rat
  maxCurrentMa : Option Rat
  maxDutyPct   : Option Rat
deriving DecidableEq, Repr

/-- The operand of `setBoardScale`: the same fields before R234 has tested them, so any of them may be `nonFinite`
or negative. -/
structure BoardRequest where
  fullScaleMa  : EngValue
  maxCurrentMa : Option EngValue
  maxDutyPct   : Option EngValue
deriving DecidableEq, Repr

/-- `CommStatus`: the status byte of a command phase and the communication-error bit (R15, R122). -/
structure CommStatus where
  status    : Byte
  commError : Bool
deriving DecidableEq, Repr

/-- Four bytes in wire order, `b0` exchanged first (R10). -/
structure Quad where
  b0 : Byte
  b1 : Byte
  b2 : Byte
  b3 : Byte
deriving DecidableEq, Repr, Inhabited

/-- The five error kinds of R270. -/
inductive ErrorKind where
  | initializationFailure | communicationError | invalidParameter | hardwareFault | timeout
deriving DecidableEq, Repr

/-- The operations: one constructor per row of spec/opcode_table.json, in its order. -/
inductive Instr where
  -- the wire view of a register access (R96, R100)
  | rd32 (bank : Bank)
  | wr32 (bank : Bank) (w : Word)
  | rd8 (bank : Bank)
  | wr8 (bank : Bank) (b : Byte)
  -- the bytes of the two phases (R94, R87 to R89)
  | stat8 (b : Byte)
  | data32w (q : Quad)
  | data32r (q : Quad)
  | data8w (b : Byte)
  | data8r (b : Byte)
  -- the register words (R90 to R93)
  | regStatus (w : Word)
  | regCfgCh (w : Word)
  | regFault (w : Word)
  | regCfgDpm (w : Word)
  -- Protocol Engine (R121 to R134)
  | writeCommand (bank : Bank) (isWrite narrow : Bool)
  | writeData32 (w : Word)
  | readData32
  | writeData8 (b : Byte)
  | readData8
  | getLastStatus
  | writeReg32 (bank : Bank) (w : Word)
  | readReg32 (bank : Bank)
  | writeReg8 (bank : Bank) (b : Byte)
  | readReg8 (bank : Bank)
  -- Register Codec (R151 to R162)
  | packStatus (x : StatusWord)
  | unpackStatus (w : Word)
  | packChannel (r : ChannelRaw)
  | unpackChannel (w : Word)
  | packFault (f : FaultWord)
  | unpackFault (w : Word)
  | packDpm (d : DpmConfig)
  | unpackDpm (w : Word)
  | encodeChannel (cfg : ChannelConfig) (ctx : ConvContext) (board : BoardScale)
  | decodeChannel (w : Word) (ctx : ConvContext)
  -- Unit Conversion Layer (R181 to R195)
  | chopKhz (base : ClockBase) (sel : Sel2)
  | codeFromMa (full ma : EngValue)
  | maFromCode (full : Rat) (code : Code7)
  | codeFromDuty (pct : EngValue) (base : ClockBase) (sel : Sel2) (src : Bool)
  | dutyFromCode (code : Code7)
  | dutyLimits (base : ClockBase) (sel : Sel2) (src : Bool)
  | codeFromMs (ms : EngValue) (khz : Nat)
  | msFromCode (code : Code8) (khz : Nat)
  | dutyCodeLinear (pct : Rat)
  | quantizeChannel (cfg : ChannelConfig) (ctx : ConvContext) (board : BoardScale)
  | dequantizeChannel (r : ChannelRaw) (ctx : ConvContext)
  -- Device State Manager (R221 to R241)
  | initializeDevice
  | deinitialize
  | configureChannel (ch : Nat) (cfg : ChannelConfig)
  | getChannelConfig (ch : Nat)
  | setChannelsOn (mask : Byte)
  | setChannelEnabled (ch : Nat) (on : Bool)
  | setPairMode (pair : Nat) (mode : PairMode)
  | readStatus
  | readFaults
  | getDpmConfig
  | setDpmConfig (d : DpmConfig)
  | setBoardScale (b : BoardRequest)
  | rawWriteRegister (bank : Bank) (w : Word)
  | rawReadRegister (bank : Bank)
  | readFaultLine
  | validateChannel (cfg : ChannelConfig) (board : BoardScale)
  | ensureCache
deriving DecidableEq, Repr

end Sys2Proof
end

