-- ==== Sys2Proof/Config.lean ====
section
/-! DEFINITION. What the spec fixes (R8), what it leaves to a parameter (R9), and what the environment is free to answer
(R4, I14): the last as constants without a body, so that no proof can know them. -/

namespace Sys2Proof.Config

/-- `N_BANKS` (R8): addressable registers, bank address 0 to 10. -/
@[simp] abbrev nBanks : Nat := 11
/-- `N_CHANNELS` (R8). -/
@[simp] abbrev nChannels : Nat := 8
/-- `CODE_MAX` (R8). -/
@[simp] abbrev codeMax : Int := 127
/-- `TIME_CODE_CONT` (R8). -/
@[simp] abbrev timeCodeCont : Nat := 255
/-- `TIME_CODE_NONE` (R8). -/
@[simp] abbrev timeCodeNone : Nat := 0
/-- `TIME_DIV` (R8). -/
@[simp] abbrev timeDiv : Rat := 40
/-- `MS_CONT_LIMIT` (R8). -/
@[simp] abbrev msContLimit : Rat := 1000000
/-- `SRC_KHZ_LIMIT` (R8). -/
@[simp] abbrev srcKhzLimit : Nat := 50
/-- `INIT_ATTEMPTS` (R8). -/
@[simp] abbrev initAttempts : Nat := 3
/-- `POWER_UP_DELAY_US` (R8). -/
@[simp] abbrev powerUpDelayUs : Nat := 500

/-- The open parameters of R9. They stand in `State.params` because a step has only the state as its argument; no
operation changes them. -/
structure Params where
  /-- `COMM_ERR_CODE` (R94, D7) -/
  commErrCode : Byte
  /-- `TX_FILL` (R124, D8) -/
  txFill : Byte
  /-- `DUTY_NARROW_SEL` (R187, D22) -/
  dutyNarrowSel : Sel2
  /-- `ERR_NOT_ACTIVE` (R276, D33) -/
  errNotActive : ErrorKind
deriving DecidableEq, Repr

/-- The defaults of R9. PRESUMED (the code `0x04`, general knowledge G1) and DESIGN CHOICE (the rest), unsafe: a claim
about a run from reset may rest on them; a claim about every state does not (log 5). -/
def Params.default : Params := ⟨0x04, 0x00, 3, .initializationFailure⟩

/-- What the environment answers to the n-th exchange when nothing is scripted: `none` is `Fail`; of an answer, a
one-byte exchange takes `b0` (R12, R4). A free value (log 2). -/
opaque envXfer : Nat → Option Quad

/-- The level the environment shows at the n-th read of the fault line when nothing is scripted (R12). A free value
(log 2). -/
opaque envFaultLine : Nat → Level

/-- An electrical level of a pin. -/
inductive Electrical where
  | low | high
deriving DecidableEq, Repr, Inhabited

/-- `CMD_ACTIVE_LEVEL` (R9, D10): open, a constant without a body (log 31). -/
opaque cmdActiveLevel : Electrical
/-- `ENABLE_ACTIVE_LEVEL` (R9, D10): open, a constant without a body (log 31). -/
opaque enableActiveLevel : Electrical

end Sys2Proof.Config
end

