-- ==== Sys2Proof/Machine/Formats.lean ====
section
/-! DEFINITION. The bit-exact formats of 30_encoding.md (R80 to R98) and the pack and unpack functions of
41_register_codec.md: pure, total, without state. Where a bit number is the spec's own decision the log says so
(log 16 to 19). -/

namespace Sys2Proof.Machine

/-! ### The command byte (R81 to R86, R95, R97) -/

/-- `CMD8` from the operands of `writeCommand` (R95): `RW | 00 | BANK | NARROW`. -/
def commandByte (bank : Bank) (isWrite narrow : Bool) : Byte :=
  (if isWrite then 0x80#8 else 0x00#8) ||| (bank.setWidth 8 <<< 1) ||| (if narrow then 0x01#8 else 0x00#8)

/-- A bank address that names a register: 0 to 10 (R51, R86). -/
def bankValid (bank : Bank) : Bool := decide (bank.toNat < Config.nBanks)

/-- What a decoder of wire traces makes of a phase-1 byte (R97). -/
inductive CommandClass where
  | invalidReservedBits
  | invalidBank (bank : Bank) (isWrite narrow : Bool)
  | access (bank : Bank) (isWrite narrow : Bool)
deriving DecidableEq, Repr

/-- R97: reserved bits first, then the bank, else the access of R96. -/
def classifyCommand (b : Byte) : CommandClass :=
  let bank : Bank := b.extractLsb' 1 4
  if b.extractLsb' 5 2 ≠ 0#2 then .invalidReservedBits
  else if bankValid bank then .access bank (b.getLsbD 7) (b.getLsbD 0)
  else .invalidBank bank (b.getLsbD 7) (b.getLsbD 0)

/-! ### Data frames (R87 to R89) -/

/-- `DATA32W` (R87): the four bytes of a full write, least significant byte of the register first. -/
def data32wBytes (w : Word) : Quad :=
  ⟨w.extractLsb' 0 8, w.extractLsb' 8 8, w.extractLsb' 16 8, w.extractLsb' 24 8⟩

/-- The word a `DATA32W` frame carries: the inverse of `data32wBytes` (R52). -/
def data32wWord (q : Quad) : Word :=
  (q.b3.setWidth 32 <<< 24) ||| (q.b2.setWidth 32 <<< 16) ||| (q.b1.setWidth 32 <<< 8) ||| q.b0.setWidth 32

/-- `DATA32R` (R88): the word of four received bytes, most significant byte of the register first. -/
def data32rWord (q : Quad) : Word :=
  (q.b0.setWidth 32 <<< 24) ||| (q.b1.setWidth 32 <<< 16) ||| (q.b2.setWidth 32 <<< 8) ||| q.b3.setWidth 32

/-- Byte 3 of a register: what a narrow access carries (R55, R89). -/
def byte3 (w : Word) : Byte := w.extractLsb' 24 8

/-- The bytes of a frame of four as a list in wire order (R10). -/
def quadBytes (q : Quad) : List Byte := [q.b0, q.b1, q.b2, q.b3]

/-! ### One-field codes (R90, R91) -/

/-- `cb` of R151. -/
def clockBaseBits : ClockBase → BitVec 1
  | .base100k => 0
  | .base80k => 1

/-- The clock base of bit 16 (R152). -/
def clockBaseOf (v : BitVec 1) : ClockBase := if v = 0 then .base100k else .base80k

/-- `pm` of R151. -/
def pairModeBits : PairMode → BitVec 2
  | .independent => 0
  | .parallel => 1
  | .hBridge => 2
  | .reserved3 => 3

/-- `mp` of R152. -/
def pairModeOf (v : BitVec 2) : PairMode :=
  if v = 0 then .independent else if v = 1 then .parallel else if v = 2 then .hBridge else .reserved3

/-- `tr` of R154. -/
def triggerBits : Trigger → BitVec 1
  | .spi => 0
  | .externalPin => 1

/-- The trigger source of bit 23 (R155). -/
def triggerOf (v : BitVec 1) : Trigger := if v = 0 then .spi else .externalPin

/-- `dm` of R154. -/
def driveModeBits : DriveMode → BitVec 1
  | .current => 0
  | .voltage => 1

/-- The drive mode of bit 7 (R155). -/
def driveModeOf (v : BitVec 1) : DriveMode := if v = 0 then .current else .voltage

/-- `sm` of R154. -/
def sideModeBits : SideMode → BitVec 1
  | .lowSide => 0
  | .highSide => 1

/-- The side mode of bit 6 (R155). -/
def sideModeOf (v : BitVec 1) : SideMode := if v = 0 then .lowSide else .highSide

/-- The mode of pair `k`; the callers give `k` at most 3 (R231). -/
def pairModeAt (m : PairModes) : Nat → PairMode
  | 0 => m.p0
  | 1 => m.p1
  | 2 => m.p2
  | _ => m.p3

/-- `m` with the mode of pair `k` changed (R231). -/
def pairModeSet (m : PairModes) (k : Nat) (v : PairMode) : PairModes :=
  match k with
  | 0 => { m with p0 := v }
  | 1 => { m with p1 := v }
  | 2 => { m with p2 := v }
  | _ => { m with p3 := v }

/-- A field of width `n` moved to bit `lo` of a register word. -/
def fieldAt {n : Nat} (v : BitVec n) (lo : Nat) : Word := v.setWidth 32 <<< lo

/-! ### Register words (R90 to R93, R151 to R159) -/

/-- `packStatus` (R151), format REG_STATUS (R90). -/
def packStatus (x : StatusWord) : Word :=
  fieldAt x.channelsOn 24 ||| fieldAt x.faultMask 17 ||| fieldAt (clockBaseBits x.clockBase) 16
    ||| fieldAt (pairModeBits x.pairMode.p3) 14 ||| fieldAt (pairModeBits x.pairMode.p2) 12
    ||| fieldAt (pairModeBits x.pairMode.p1) 10 ||| fieldAt (pairModeBits x.pairMode.p0) 8
    ||| fieldAt x.faultFlags 1 ||| fieldAt (BitVec.ofBool x.globalEnable) 0

/-- `unpackStatus` (R152). -/
def unpackStatus (w : Word) : StatusWord where
  channelsOn := w.extractLsb' 24 8
  faultMask := w.extractLsb' 17 7
  clockBase := clockBaseOf (w.extractLsb' 16 1)
  pairMode :=
    { p0 := pairModeOf (w.extractLsb' 8 2), p1 := pairModeOf (w.extractLsb' 10 2)
      p2 := pairModeOf (w.extractLsb' 12 2), p3 := pairModeOf (w.extractLsb' 14 2) }
  faultFlags := w.extractLsb' 1 7
  globalEnable := w.getLsbD 0

/-- `packChannel` (R154), format REG_CFG_CH (R91): every combination of fields, the illegal ones of R35 included. -/
def packChannel (r : ChannelRaw) : Word :=
  fieldAt (BitVec.ofBool r.halfScale) 31 ||| fieldAt r.holdCode 24 ||| fieldAt (triggerBits r.trigger) 23
    ||| fieldAt r.hitCode 16 ||| fieldAt r.hitTimeCode 8 ||| fieldAt (driveModeBits r.driveMode) 7
    ||| fieldAt (sideModeBits r.sideMode) 6 ||| fieldAt r.chopSel 4 ||| fieldAt (BitVec.ofBool r.slewRateControl) 3
    ||| fieldAt (BitVec.ofBool r.openLoadEn) 2 ||| fieldAt (BitVec.ofBool r.plungerDetectEn) 1
    ||| fieldAt (BitVec.ofBool r.hitCheckEn) 0

/-- `unpackChannel` (R155). -/
def unpackChannel (w : Word) : ChannelRaw where
  halfScale := w.getLsbD 31
  holdCode := w.extractLsb' 24 7
  trigger := triggerOf (w.extractLsb' 23 1)
  hitCode := w.extractLsb' 16 7
  hitTimeCode := w.extractLsb' 8 8
  driveMode := driveModeOf (w.extractLsb' 7 1)
  sideMode := sideModeOf (w.extractLsb' 6 1)
  chopSel := w.extractLsb' 4 2
  slewRateControl := w.getLsbD 3
  openLoadEn := w.getLsbD 2
  plungerDetectEn := w.getLsbD 1
  hitCheckEn := w.getLsbD 0

/-- `packFault` (R156), format REG_FAULT (R92). -/
def packFault (f : FaultWord) : Word :=
  fieldAt f.overcurrent 24 ||| fieldAt f.hitNotReached 16 ||| fieldAt f.openLoad 8 ||| fieldAt f.plungerMovement 0

/-- `unpackFault` (R157). -/
def unpackFault (w : Word) : FaultWord where
  overcurrent := w.extractLsb' 24 8
  hitNotReached := w.extractLsb' 16 8
  openLoad := w.extractLsb' 8 8
  plungerMovement := w.extractLsb' 0 8

/-- `packDpm` (R158), format REG_CFG_DPM (R93): bits 31:15 are zero. -/
def packDpm (d : DpmConfig) : Word :=
  fieldAt d.startCurrentCode 8 ||| fieldAt d.debounceCode 4 ||| fieldAt d.dipThresholdCode 0

/-- `unpackDpm` (R159): bits 31:15 are ignored. -/
def unpackDpm (w : Word) : DpmConfig where
  startCurrentCode := w.extractLsb' 8 7
  debounceCode := w.extractLsb' 4 4
  dipThresholdCode := w.extractLsb' 0 4

/-! ### `encode` and `decode` of the three registers without engineering units (R150, R163) -/

/-- `encodeStatus = packStatus` (R163). -/
def encodeStatus (x : StatusWord) : Word := packStatus x
/-- `decodeStatus(w, ctx) = unpackStatus(w)`: the context is accepted and ignored (R163). -/
def decodeStatus (w : Word) (_ctx : ConvContext) : StatusWord := unpackStatus w
/-- `encodeFault = packFault` (R163). -/
def encodeFault (f : FaultWord) : Word := packFault f
/-- `decodeFault(w, ctx) = unpackFault(w)` (R163). -/
def decodeFault (w : Word) (_ctx : ConvContext) : FaultWord := unpackFault w
/-- `encodeDpm = packDpm` (R163). -/
def encodeDpm (d : DpmConfig) : Word := packDpm d
/-- `decodeDpm(w, ctx) = unpackDpm(w)` (R163). -/
def decodeDpm (w : Word) (_ctx : ConvContext) : DpmConfig := unpackDpm w

end Sys2Proof.Machine
end

