-- ==== Sys2Proof/Machine/Units.lean ====
section
/-! DEFINITION. The Unit Conversion Layer (42_unit_conversion.md): pure functions over exact rationals (R11, R198).
An `Except ErrorKind` result is the `Ok`/`Err` of the rules. -/

namespace Sys2Proof.Machine

/-- `round` (R11): to the nearest integer, a tie going away from zero. -/
def roundQ (q : Rat) : Int :=
  if 0 ≤ q then (q + 1 / 2).floor else -((-q + 1 / 2).floor)

/-- `clamp(v, lo, hi) = max(lo, min(hi, v))` on rationals (R11). -/
def clampQ (v lo hi : Rat) : Rat := max lo (min hi v)

/-- `clamp` on integers (R11). -/
def clampInt (v lo hi : Int) : Int := max lo (min hi v)

/-! ### Chop frequency (R181) -/

/-- `chopKhz` (R181): the fixed lookup, not a formula. -/
def chopKhz : ClockBase → Sel2 → Nat
  | .base100k, sel => if sel = 0 then 25 else if sel = 1 then 33 else if sel = 2 then 50 else 100
  | .base80k, sel => if sel = 0 then 20 else if sel = 1 then 26 else if sel = 2 then 40 else 80

/-- The eight integers of R181, the values a `chopKhz` operand may have (R190). -/
def chopFrequencies : List Nat :=
  [chopKhz .base100k 0, chopKhz .base100k 1, chopKhz .base100k 2, chopKhz .base100k 3,
   chopKhz .base80k 0, chopKhz .base80k 1, chopKhz .base80k 2, chopKhz .base80k 3]

/-! ### Current (R182, R183) -/

/-- The common linear mapping of R182 and R185 for a positive full scale: 0 for `v ≤ 0`, else `round(v * 127 / full)`
saturated to 127. -/
def linearCode (full v : Rat) : Code7 :=
  if v ≤ 0 then 0 else BitVec.ofInt 7 (min Config.codeMax (roundQ (v * 127 / full)))

/-- `codeFromMa` (R182). -/
def codeFromMa (full ma : EngValue) : Except ErrorKind Code7 :=
  match full, ma with
  | .finite f, .finite v => if f ≤ 0 then .error .invalidParameter else .ok (linearCode f v)
  | _, _ => .error .invalidParameter

/-- `maFromCode` (R183): an integer number of milliamps. -/
def maFromCode (full : Rat) (code : Code7) : Int := roundQ ((code.toNat : Rat) * full / 127)

/-! ### Duty cycle (R185 to R189) -/

/-- `dutyCodeLinear` (R185): the same mapping against 100. -/
def dutyCodeLinear (pct : Rat) : Code7 := linearCode 100 pct

/-- `dutyFromCode` (R186): an integer percent. -/
def dutyFromCode (code : Code7) : Int := roundQ ((code.toNat : Rat) * 100 / 127)

/-- Slew-rate control is an input error at a chop frequency of 50 kHz or above (R188). -/
def slewIllegal (base : ClockBase) (sel : Sel2) (src : Bool) : Bool :=
  src && decide (Config.srcKhzLimit ≤ chopKhz base sel)

/-- `dutyLimits` (R187), in percent. -/
def dutyLimits (p : Config.Params) (base : ClockBase) (sel : Sel2) (src : Bool) : Except ErrorKind (Nat × Nat) :=
  if slewIllegal base sel src then .error .invalidParameter
  else if src then .ok (7, 93)
  else if sel = p.dutyNarrowSel then .ok (8, 92)
  else .ok (4, 96)

/-- `codeFromDuty` (R189): the percent is clamped first and mapped second. -/
def codeFromDuty (p : Config.Params) (pct : EngValue) (base : ClockBase) (sel : Sel2) (src : Bool) :
    Except ErrorKind Code7 :=
  match pct with
  | .nonFinite => .error .invalidParameter
  | .finite q =>
    match dutyLimits p base sel src with
    | .error e => .error e
    | .ok (lo, hi) => .ok (dutyCodeLinear (clampQ q lo hi))

/-! ### Timing (R190, R191) -/

/-- `codeFromMs` (R190). -/
def codeFromMs (ms : EngValue) (khz : Nat) : Except ErrorKind Code8 :=
  match ms with
  | .nonFinite => .error .invalidParameter
  | .finite q =>
    if q = 0 then .ok (BitVec.ofNat 8 Config.timeCodeNone)
    else if q < 0 ∨ Config.msContLimit ≤ q then .ok (BitVec.ofNat 8 Config.timeCodeCont)
    else .ok (BitVec.ofInt 8 (clampInt (roundQ (q * khz / Config.timeDiv)) 1 254))

/-- `msFromCode` (R191): exact, 0 for code 0 and -1 for code 255. -/
def msFromCode (code : Code8) (khz : Nat) : Rat :=
  if code = 0 then 0
  else if code = 255 then -1
  else (code.toNat : Rat) * Config.timeDiv / khz

/-! ### A whole channel (R193 to R195) -/

/-- `capI` and `capD` (R193): the minimum with a ceiling that is present. -/
def capped (ceiling : Option Rat) (v : Rat) : Rat :=
  match ceiling with
  | none => v
  | some c => min v c

/-- `quantizeChannel` (R194). -/
def quantizeChannel (p : Config.Params) (cfg : ChannelConfig) (ctx : ConvContext) (board : BoardScale) :
    Except ErrorKind ChannelRaw :=
  match cfg.hitSetpoint, cfg.holdSetpoint, cfg.hitTimeMs with
  | .finite hit, .finite hold, .finite ms =>
    let khz := chopKhz ctx.clockBase cfg.chopSel
    if slewIllegal ctx.clockBase cfg.chopSel cfg.slewRateControl then .error .invalidParameter
    else
      let code (v : Rat) : Except ErrorKind Code7 :=
        match cfg.driveMode with
        | .current => codeFromMa (.finite ctx.fullScaleMa) (.finite (capped board.maxCurrentMa v))
        | .voltage =>
          codeFromDuty p (.finite (capped board.maxDutyPct v)) ctx.clockBase cfg.chopSel cfg.slewRateControl
      match code hit, code hold, codeFromMs (.finite ms) khz with
      | .ok hitCode, .ok holdCode, .ok timeCode =>
        .ok { halfScale := cfg.halfScale, holdCode := holdCode, trigger := cfg.trigger, hitCode := hitCode,
              hitTimeCode := timeCode, driveMode := cfg.driveMode, sideMode := cfg.sideMode, chopSel := cfg.chopSel,
              slewRateControl := cfg.slewRateControl, openLoadEn := cfg.openLoadEn,
              plungerDetectEn := cfg.plungerDetectEn, hitCheckEn := cfg.hitCheckEn }
      | _, _, _ => .error .invalidParameter
  | _, _, _ => .error .invalidParameter

/-- `dequantizeChannel` (R195): no error, no clamp, no legality check. -/
def dequantizeChannel (r : ChannelRaw) (ctx : ConvContext) : ChannelConfig :=
  let value (c : Code7) : EngValue :=
    match r.driveMode with
    | .current => .finite (maFromCode ctx.fullScaleMa c)
    | .voltage => .finite (dutyFromCode c)
  { halfScale := r.halfScale, holdSetpoint := value r.holdCode, trigger := r.trigger, hitSetpoint := value r.hitCode,
    hitTimeMs := .finite (msFromCode r.hitTimeCode (chopKhz ctx.clockBase r.chopSel)), driveMode := r.driveMode,
    sideMode := r.sideMode, chopSel := r.chopSel, slewRateControl := r.slewRateControl, openLoadEn := r.openLoadEn,
    plungerDetectEn := r.plungerDetectEn, hitCheckEn := r.hitCheckEn }

/-! ### The channel codec with engineering units (R161, R162) -/

/-- `encodeChannel` (R161). -/
def encodeChannel (p : Config.Params) (cfg : ChannelConfig) (ctx : ConvContext) (board : BoardScale) :
    Except ErrorKind Word :=
  match quantizeChannel p cfg ctx board with
  | .error e => .error e
  | .ok r => .ok (packChannel r)

/-- `decodeChannel` (R162). -/
def decodeChannel (w : Word) (ctx : ConvContext) : ChannelConfig := dequantizeChannel (unpackChannel w) ctx

end Sys2Proof.Machine
end

