-- ==== Sys2Proof/WellFormed.lean ====
section
/-! DEFINITION. Which terms of `Instr` are operations with operands of the types of 00_scope.md R15. Everything that a
bit width or an inductive type says is said by the type; what is left is checked here. An index out of range (a
channel above 7, a pair above 3, a bank above 10) is well formed: the operation itself answers it (R224). -/

namespace Sys2Proof

/-- `full_scale_ma: rational >= 0` of a conversion context (R15). -/
def ConvContext.wellFormed (c : ConvContext) : Bool := decide (0 ≤ c.fullScaleMa)

/-- `full_scale_ma: rational >= 0` of a board scale; a ceiling is any rational (R15), only `setBoardScale` rejects a
negative one (R234). -/
def BoardScale.wellFormed (b : BoardScale) : Bool := decide (0 ≤ b.fullScaleMa)

/-- A chop frequency operand is one of the eight integers of R181 (R190, R191). -/
def khzWellFormed (khz : Nat) : Bool := Machine.chopFrequencies.contains khz

/-- The operands are of the types R15 and the operation's own rule give them. -/
def Instr.wellFormed : Instr → Bool
  | .encodeChannel _ ctx board => ctx.wellFormed && board.wellFormed
  | .decodeChannel _ ctx => ctx.wellFormed
  | .maFromCode full _ => decide (0 ≤ full)
  | .codeFromMs _ khz => khzWellFormed khz
  | .msFromCode _ khz => khzWellFormed khz
  | .quantizeChannel _ ctx board => ctx.wellFormed && board.wellFormed
  | .dequantizeChannel _ ctx => ctx.wellFormed
  | .validateChannel _ board => board.wellFormed
  | .rd32 _ => true
  | .wr32 _ _ => true
  | .rd8 _ => true
  | .wr8 _ _ => true
  | .stat8 _ => true
  | .data32w _ => true
  | .data32r _ => true
  | .data8w _ => true
  | .data8r _ => true
  | .regStatus _ => true
  | .regCfgCh _ => true
  | .regFault _ => true
  | .regCfgDpm _ => true
  | .writeCommand _ _ _ => true
  | .writeData32 _ => true
  | .readData32 => true
  | .writeData8 _ => true
  | .readData8 => true
  | .getLastStatus => true
  | .writeReg32 _ _ => true
  | .readReg32 _ => true
  | .writeReg8 _ _ => true
  | .readReg8 _ => true
  | .packStatus _ => true
  | .unpackStatus _ => true
  | .packChannel _ => true
  | .unpackChannel _ => true
  | .packFault _ => true
  | .unpackFault _ => true
  | .packDpm _ => true
  | .unpackDpm _ => true
  | .chopKhz _ _ => true
  | .codeFromMa _ _ => true
  | .codeFromDuty _ _ _ _ => true
  | .dutyFromCode _ => true
  | .dutyLimits _ _ _ => true
  | .dutyCodeLinear _ => true
  | .initializeDevice => true
  | .deinitialize => true
  | .configureChannel _ _ => true
  | .getChannelConfig _ => true
  | .setChannelsOn _ => true
  | .setChannelEnabled _ _ => true
  | .setPairMode _ _ => true
  | .readStatus => true
  | .readFaults => true
  | .getDpmConfig => true
  | .setDpmConfig _ => true
  | .setBoardScale _ => true
  | .rawWriteRegister _ _ => true
  | .rawReadRegister _ => true
  | .readFaultLine => true
  | .ensureCache => true

end Sys2Proof
end

