-- ==== Sys2Proof/Decode.lean ====
section
/-! DEFINITION. The host port: how a request of the host, or a piece of a wire trace, is written in bytes, read back and
written. A frame names the format its bytes are in, because the formats of R80 share their byte values: R98 tells them
apart by the phase, not by the bytes. CMD8, STAT8, the data frames and the register words are laid out as
30_encoding.md lays them out; for HOSTOP the spec gives the identifier alone (R99), and the operand bytes after it are
the model's (log 3, log 4). Decoding is total and rejects by name. -/

namespace Sys2Proof

/-- The formats of R80, and the host operation identifiers of R99. -/
inductive Format where
  | cmd8 | stat8 | data32w | data32r | data8w | data8r
  | regStatus | regCfgCh | regFault | regCfgDpm | hostOp
deriving DecidableEq, Repr

/-- One request: a format and its bytes, the first byte first. -/
structure Frame where
  format : Format
  bytes  : List Byte
deriving DecidableEq, Repr

/-- Why a frame is no encoding of an operation. -/
inductive DecodeError where
  /-- the bytes end before the operation does -/
  | truncated
  /-- bits 6:5 of a command byte are not zero (R85, R97) -/
  | invalidReservedBits
  /-- an identifier that R99 does not list -/
  | unknownOperation
  /-- an operand byte that stands for no value of the operand's type -/
  | invalidOperand
  /-- bytes other than zero padding stand after the operation -/
  | trailingBytes
deriving DecidableEq, Repr

/-- What reading one operand answers: the value and the bytes left. -/
abbrev Read (α : Type) := Except DecodeError (α × List Byte)

/-- Read one operand and go on with it and the bytes left. -/
def thenRead {α β : Type} (p : Read α) (k : α → List Byte → Read β) : Read β :=
  match p with
  | .error e => .error e
  | .ok (a, r) => k a r

/-! ### Operands of the host port (log 3) -/

def getByte : List Byte → Read Byte
  | [] => .error .truncated
  | b :: r => .ok (b, r)

def putByte (b : Byte) : List Byte := [b]

/-- Four bytes in the order they stand. -/
def getQuad : List Byte → Read Quad
  | a :: b :: c :: d :: r => .ok (⟨a, b, c, d⟩, r)
  | _ => .error .truncated

/-- A word, least significant byte first (the order of DATA32W, R87). -/
def getWord (bs : List Byte) : Read Word :=
  thenRead (getQuad bs) fun q r => .ok (Machine.data32wWord q, r)

def putWord (w : Word) : List Byte := Machine.quadBytes (Machine.data32wBytes w)

/-- A value of `n` bits in the low bits of a byte, the high bits zero. -/
def getBits (n : Nat) : List Byte → Read (BitVec n)
  | [] => .error .truncated
  | b :: r => if b.toNat < 2 ^ n then .ok (b.setWidth n, r) else .error .invalidOperand

def putBits {n : Nat} (v : BitVec n) : List Byte := [v.setWidth 8]

def getFlag (bs : List Byte) : Read Bool :=
  thenRead (getBits 1 bs) fun v r => .ok (v.getLsbD 0, r)

def putFlag (b : Bool) : List Byte := putBits (BitVec.ofBool b)

def getClockBase (bs : List Byte) : Read ClockBase :=
  thenRead (getBits 1 bs) fun v r => .ok (Machine.clockBaseOf v, r)

def putClockBase (c : ClockBase) : List Byte := putBits (Machine.clockBaseBits c)

def getPairMode (bs : List Byte) : Read PairMode :=
  thenRead (getBits 2 bs) fun v r => .ok (Machine.pairModeOf v, r)

def putPairMode (m : PairMode) : List Byte := putBits (Machine.pairModeBits m)

/-- A natural number in groups of seven bits, least significant group first; bit 7 says that another byte follows. -/
def getNat : List Byte → Read Nat
  | [] => .error .truncated
  | b :: r =>
    if b.toNat < 128 then .ok (b.toNat, r)
    else
      thenRead (getNat r) fun n r' => .ok (b.toNat - 128 + 128 * n, r')

/-- `putNat` with a bound on the number of groups after the first. -/
def putNatUpTo : Nat → Nat → List Byte
  | 0, n => [BitVec.ofNat 8 (n % 128)]
  | k + 1, n =>
    if n < 128 then [BitVec.ofNat 8 n] else BitVec.ofNat 8 (n % 128 + 128) :: putNatUpTo k (n / 128)

def putNat (n : Nat) : List Byte := putNatUpTo n n

/-- An integer: `2n` for `n` and `2n + 1` for `-(n + 1)`. -/
def getInt (bs : List Byte) : Read Int :=
  thenRead (getNat bs) fun n r => .ok (if n % 2 = 0 then Int.ofNat (n / 2) else Int.negSucc (n / 2), r)

def putInt : Int → List Byte
  | .ofNat n => putNat (2 * n)
  | .negSucc n => putNat (2 * n + 1)

/-- A rational: its numerator, then its denominator less one. -/
def getRat (bs : List Byte) : Read Rat :=
  thenRead (getInt bs) fun n r =>
  thenRead (getNat r) fun d r => .ok (mkRat n (d + 1), r)

def putRat (q : Rat) : List Byte := putInt q.num ++ putNat (q.den - 1)

/-- A rational of at least 0 (R15). -/
def getNonNeg (bs : List Byte) : Read Rat :=
  thenRead (getRat bs) fun q r => if 0 ≤ q then .ok (q, r) else .error .invalidOperand

/-- An engineering value: 0 and the rational, or 1 for `NonFinite`. -/
def getEng (bs : List Byte) : Read EngValue :=
  thenRead (getFlag bs) fun bad r =>
    if bad then .ok (.nonFinite, r) else thenRead (getRat r) fun q r => .ok (.finite q, r)

def putEng : EngValue → List Byte
  | .nonFinite => putFlag true
  | .finite q => putFlag false ++ putRat q

/-- An optional operand: 0 for absent, or 1 and the operand. -/
def getOption {α : Type} (get : List Byte → Read α) (bs : List Byte) : Read (Option α) :=
  thenRead (getFlag bs) fun present r =>
    if present then thenRead (get r) fun a r => .ok (some a, r) else .ok (none, r)

def putOption {α : Type} (put : α → List Byte) : Option α → List Byte
  | none => putFlag false
  | some a => putFlag true ++ put a

/-- A chop frequency: its place in the table of R181. -/
def getKhz (bs : List Byte) : Read Nat :=
  thenRead (getBits 3 bs) fun v r => .ok (Machine.chopFrequencies.getD v.toNat 0, r)

def putKhz (khz : Nat) : List Byte := putBits (BitVec.ofNat 3 (Machine.chopFrequencies.idxOf khz))

/-- The flags and selectors of a channel configuration: a REG_CFG_CH word whose three code fields are zero. -/
def channelFlags (c : ChannelConfig) : ChannelRaw where
  halfScale := c.halfScale
  holdCode := 0
  trigger := c.trigger
  hitCode := 0
  hitTimeCode := 0
  driveMode := c.driveMode
  sideMode := c.sideMode
  chopSel := c.chopSel
  slewRateControl := c.slewRateControl
  openLoadEn := c.openLoadEn
  plungerDetectEn := c.plungerDetectEn
  hitCheckEn := c.hitCheckEn

def getChannelFlags (bs : List Byte) : Read ChannelRaw :=
  thenRead (getWord bs) fun w r =>
    let f := Machine.unpackChannel w
    if f.holdCode = 0 ∧ f.hitCode = 0 ∧ f.hitTimeCode = 0 then .ok (f, r) else .error .invalidOperand

/-- A channel configuration: its flags, then the hit setpoint, the hold setpoint and the hit time. -/
def getConfig (bs : List Byte) : Read ChannelConfig :=
  thenRead (getChannelFlags bs) fun f r =>
  thenRead (getEng r) fun hit r =>
  thenRead (getEng r) fun hold r =>
  thenRead (getEng r) fun ms r =>
  .ok ({ halfScale := f.halfScale, holdSetpoint := hold, trigger := f.trigger, hitSetpoint := hit, hitTimeMs := ms,
         driveMode := f.driveMode, sideMode := f.sideMode, chopSel := f.chopSel,
         slewRateControl := f.slewRateControl, openLoadEn := f.openLoadEn, plungerDetectEn := f.plungerDetectEn,
         hitCheckEn := f.hitCheckEn }, r)

def putConfig (c : ChannelConfig) : List Byte :=
  putWord (Machine.packChannel (channelFlags c)) ++ (putEng c.hitSetpoint ++ (putEng c.holdSetpoint ++ putEng c.hitTimeMs))

def getContext (bs : List Byte) : Read ConvContext :=
  thenRead (getNonNeg bs) fun f r =>
  thenRead (getClockBase r) fun c r =>
  .ok (⟨f, c⟩, r)

def putContext (c : ConvContext) : List Byte := putRat c.fullScaleMa ++ putClockBase c.clockBase

/-- A board scale: a full scale of at least 0, and two optional ceilings, each any rational (R15, R193). -/
def getBoard (bs : List Byte) : Read BoardScale :=
  thenRead (getNonNeg bs) fun f r =>
  thenRead (getOption getRat r) fun i r =>
  thenRead (getOption getRat r) fun d r =>
  .ok (⟨f, i, d⟩, r)

def putBoard (b : BoardScale) : List Byte :=
  putRat b.fullScaleMa ++ (putOption putRat b.maxCurrentMa ++ putOption putRat b.maxDutyPct)

def getBoardRequest (bs : List Byte) : Read BoardRequest :=
  thenRead (getEng bs) fun f r =>
  thenRead (getOption getEng r) fun i r =>
  thenRead (getOption getEng r) fun d r =>
  .ok (⟨f, i, d⟩, r)

def putBoardRequest (b : BoardRequest) : List Byte :=
  putEng b.fullScaleMa ++ (putOption putEng b.maxCurrentMa ++ putOption putEng b.maxDutyPct)

def getStatusWord (bs : List Byte) : Read StatusWord :=
  thenRead (getWord bs) fun w r =>
  .ok (Machine.unpackStatus w, r)

def getChannelRaw (bs : List Byte) : Read ChannelRaw :=
  thenRead (getWord bs) fun w r =>
  .ok (Machine.unpackChannel w, r)

def getFaultWord (bs : List Byte) : Read FaultWord :=
  thenRead (getWord bs) fun w r =>
  .ok (Machine.unpackFault w, r)

/-- The plunger-detection record as its register word, reserved bits zero (R93). -/
def getDpm (bs : List Byte) : Read DpmConfig :=
  thenRead (getWord bs) fun w r =>
  if w.extractLsb' 15 17 = 0 then .ok (Machine.unpackDpm w, r) else .error .invalidOperand

/-! ### Decoding -/

/-- A command byte and, for a write, its data frame (R96, R98). Of the bytes of R97 only those with reserved bits set
are no operation: a bank of 11 to 15 is an operation that answers `InvalidParameter` (R86). -/
def decodeCommand (bs : List Byte) : Read Instr :=
  thenRead (getByte bs) fun b r =>
  match Machine.classifyCommand b with
  | .invalidReservedBits => .error .invalidReservedBits
  | .access bank isWrite narrow | .invalidBank bank isWrite narrow =>
    match isWrite, narrow with
    | false, false => .ok (.rd32 bank, r)
    | false, true => .ok (.rd8 bank, r)
    | true, false =>
      thenRead (getWord r) fun w r =>
      .ok (.wr32 bank w, r)
    | true, true =>
      thenRead (getByte r) fun d r =>
      .ok (.wr8 bank d, r)

/-- A host operation whose identifier (R99) is `op`, with its operands in the order of R99's table. -/
def decodeOperands (op : Nat) (r : List Byte) : Read Instr :=
  match op with
  | 0x01 =>
    thenRead (getBits 4 r) fun bank r =>
    thenRead (getFlag r) fun wr r =>
    thenRead (getFlag r) fun narrow r =>
    .ok (.writeCommand bank wr narrow, r)
  | 0x02 =>
    thenRead (getWord r) fun w r =>
    .ok (.writeData32 w, r)
  | 0x03 => .ok (.readData32, r)
  | 0x04 =>
    thenRead (getByte r) fun b r =>
    .ok (.writeData8 b, r)
  | 0x05 => .ok (.readData8, r)
  | 0x06 => .ok (.getLastStatus, r)
  | 0x10 =>
    thenRead (getBits 4 r) fun bank r =>
    thenRead (getWord r) fun w r =>
    .ok (.writeReg32 bank w, r)
  | 0x11 =>
    thenRead (getBits 4 r) fun bank r =>
    .ok (.readReg32 bank, r)
  | 0x12 =>
    thenRead (getBits 4 r) fun bank r =>
    thenRead (getByte r) fun b r =>
    .ok (.writeReg8 bank b, r)
  | 0x13 =>
    thenRead (getBits 4 r) fun bank r =>
    .ok (.readReg8 bank, r)
  | 0x20 =>
    thenRead (getStatusWord r) fun x r =>
    .ok (.packStatus x, r)
  | 0x21 =>
    thenRead (getWord r) fun w r =>
    .ok (.unpackStatus w, r)
  | 0x22 =>
    thenRead (getChannelRaw r) fun x r =>
    .ok (.packChannel x, r)
  | 0x23 =>
    thenRead (getWord r) fun w r =>
    .ok (.unpackChannel w, r)
  | 0x24 =>
    thenRead (getFaultWord r) fun x r =>
    .ok (.packFault x, r)
  | 0x25 =>
    thenRead (getWord r) fun w r =>
    .ok (.unpackFault w, r)
  | 0x26 =>
    thenRead (getDpm r) fun x r =>
    .ok (.packDpm x, r)
  | 0x27 =>
    thenRead (getWord r) fun w r =>
    .ok (.unpackDpm w, r)
  | 0x28 =>
    thenRead (getConfig r) fun cfg r =>
    thenRead (getContext r) fun ctx r =>
    thenRead (getBoard r) fun board r =>
    .ok (.encodeChannel cfg ctx board, r)
  | 0x29 =>
    thenRead (getWord r) fun w r =>
    thenRead (getContext r) fun ctx r =>
    .ok (.decodeChannel w ctx, r)
  | 0x30 =>
    thenRead (getClockBase r) fun base r =>
    thenRead (getBits 2 r) fun sel r =>
    .ok (.chopKhz base sel, r)
  | 0x31 =>
    thenRead (getEng r) fun full r =>
    thenRead (getEng r) fun ma r =>
    .ok (.codeFromMa full ma, r)
  | 0x32 =>
    thenRead (getNonNeg r) fun full r =>
    thenRead (getBits 7 r) fun code r =>
    .ok (.maFromCode full code, r)
  | 0x33 =>
    thenRead (getEng r) fun pct r =>
    thenRead (getClockBase r) fun base r =>
    thenRead (getBits 2 r) fun sel r =>
    thenRead (getFlag r) fun src r =>
    .ok (.codeFromDuty pct base sel src, r)
  | 0x34 =>
    thenRead (getBits 7 r) fun code r =>
    .ok (.dutyFromCode code, r)
  | 0x35 =>
    thenRead (getClockBase r) fun base r =>
    thenRead (getBits 2 r) fun sel r =>
    thenRead (getFlag r) fun src r =>
    .ok (.dutyLimits base sel src, r)
  | 0x36 =>
    thenRead (getEng r) fun ms r =>
    thenRead (getKhz r) fun khz r =>
    .ok (.codeFromMs ms khz, r)
  | 0x37 =>
    thenRead (getByte r) fun code r =>
    thenRead (getKhz r) fun khz r =>
    .ok (.msFromCode code khz, r)
  | 0x38 =>
    thenRead (getRat r) fun pct r =>
    .ok (.dutyCodeLinear pct, r)
  | 0x39 =>
    thenRead (getConfig r) fun cfg r =>
    thenRead (getContext r) fun ctx r =>
    thenRead (getBoard r) fun board r =>
    .ok (.quantizeChannel cfg ctx board, r)
  | 0x3A =>
    thenRead (getChannelRaw r) fun x r =>
    thenRead (getContext r) fun ctx r =>
    .ok (.dequantizeChannel x ctx, r)
  | 0x40 => .ok (.initializeDevice, r)
  | 0x41 => .ok (.deinitialize, r)
  | 0x42 =>
    thenRead (getNat r) fun ch r =>
    thenRead (getConfig r) fun cfg r =>
    .ok (.configureChannel ch cfg, r)
  | 0x43 =>
    thenRead (getNat r) fun ch r =>
    .ok (.getChannelConfig ch, r)
  | 0x44 =>
    thenRead (getByte r) fun mask r =>
    .ok (.setChannelsOn mask, r)
  | 0x45 =>
    thenRead (getNat r) fun ch r =>
    thenRead (getFlag r) fun on r =>
    .ok (.setChannelEnabled ch on, r)
  | 0x46 =>
    thenRead (getNat r) fun pair r =>
    thenRead (getPairMode r) fun mode r =>
    .ok (.setPairMode pair mode, r)
  | 0x47 => .ok (.readStatus, r)
  | 0x48 => .ok (.readFaults, r)
  | 0x49 => .ok (.getDpmConfig, r)
  | 0x4A =>
    thenRead (getDpm r) fun d r =>
    .ok (.setDpmConfig d, r)
  | 0x4B =>
    thenRead (getBoardRequest r) fun b r =>
    .ok (.setBoardScale b, r)
  | 0x4C =>
    thenRead (getBits 4 r) fun bank r =>
    thenRead (getWord r) fun w r =>
    .ok (.rawWriteRegister bank w, r)
  | 0x4D =>
    thenRead (getBits 4 r) fun bank r =>
    .ok (.rawReadRegister bank, r)
  | 0x4E => .ok (.readFaultLine, r)
  | 0x4F =>
    thenRead (getConfig r) fun cfg r =>
    thenRead (getBoard r) fun board r =>
    .ok (.validateChannel cfg board, r)
  | 0x50 => .ok (.ensureCache, r)
  | _ => .error .unknownOperation

/-- The operation at the head of the bytes of a format. -/
def decodeHead (f : Format) (bs : List Byte) : Read Instr :=
  match f with
  | .cmd8 => decodeCommand bs
  | .stat8 =>
    thenRead (getByte bs) fun b r =>
    .ok (.stat8 b, r)
  | .data32w =>
    thenRead (getQuad bs) fun q r =>
    .ok (.data32w q, r)
  | .data32r =>
    thenRead (getQuad bs) fun q r =>
    .ok (.data32r q, r)
  | .data8w =>
    thenRead (getByte bs) fun b r =>
    .ok (.data8w b, r)
  | .data8r =>
    thenRead (getByte bs) fun b r =>
    .ok (.data8r b, r)
  | .regStatus =>
    thenRead (getWord bs) fun w r =>
    .ok (.regStatus w, r)
  | .regCfgCh =>
    thenRead (getWord bs) fun w r =>
    .ok (.regCfgCh w, r)
  | .regFault =>
    thenRead (getWord bs) fun w r =>
    .ok (.regFault w, r)
  | .regCfgDpm =>
    thenRead (getWord bs) fun w r =>
    .ok (.regCfgDpm w, r)
  | .hostOp =>
    thenRead (getByte bs) fun op r =>
    decodeOperands op.toNat r

/-- The operation of a frame; after it only zero padding may stand. -/
def decode (f : Frame) : Except DecodeError Instr :=
  match decodeHead f.format f.bytes with
  | .error e => .error e
  | .ok (i, r) => if r.all (· == 0) then .ok i else .error .trailingBytes

/-! ### Encoding -/

/-- The frame of a command byte and its data (R95, R96). -/
def commandFrame (bank : Bank) (isWrite narrow : Bool) (data : List Byte) : Frame :=
  ⟨.cmd8, Machine.commandByte bank isWrite narrow :: data⟩

/-- The frame of a host operation: its identifier (R99) and its operands. -/
def hostFrame (op : Byte) (operands : List Byte) : Frame := ⟨.hostOp, op :: operands⟩

/-- The frame of an operation. -/
def encode : Instr → Frame
  | .rd32 bank => commandFrame bank false false []
  | .wr32 bank w => commandFrame bank true false (putWord w)
  | .rd8 bank => commandFrame bank false true []
  | .wr8 bank b => commandFrame bank true true (putByte b)
  | .stat8 b => ⟨.stat8, putByte b⟩
  | .data32w q => ⟨.data32w, Machine.quadBytes q⟩
  | .data32r q => ⟨.data32r, Machine.quadBytes q⟩
  | .data8w b => ⟨.data8w, putByte b⟩
  | .data8r b => ⟨.data8r, putByte b⟩
  | .regStatus w => ⟨.regStatus, putWord w⟩
  | .regCfgCh w => ⟨.regCfgCh, putWord w⟩
  | .regFault w => ⟨.regFault, putWord w⟩
  | .regCfgDpm w => ⟨.regCfgDpm, putWord w⟩
  | .writeCommand bank isWrite narrow => hostFrame 0x01 (putBits bank ++ (putFlag isWrite ++ putFlag narrow))
  | .writeData32 w => hostFrame 0x02 (putWord w)
  | .readData32 => hostFrame 0x03 []
  | .writeData8 b => hostFrame 0x04 (putByte b)
  | .readData8 => hostFrame 0x05 []
  | .getLastStatus => hostFrame 0x06 []
  | .writeReg32 bank w => hostFrame 0x10 (putBits bank ++ putWord w)
  | .readReg32 bank => hostFrame 0x11 (putBits bank)
  | .writeReg8 bank b => hostFrame 0x12 (putBits bank ++ putByte b)
  | .readReg8 bank => hostFrame 0x13 (putBits bank)
  | .packStatus x => hostFrame 0x20 (putWord (Machine.packStatus x))
  | .unpackStatus w => hostFrame 0x21 (putWord w)
  | .packChannel r => hostFrame 0x22 (putWord (Machine.packChannel r))
  | .unpackChannel w => hostFrame 0x23 (putWord w)
  | .packFault f => hostFrame 0x24 (putWord (Machine.packFault f))
  | .unpackFault w => hostFrame 0x25 (putWord w)
  | .packDpm d => hostFrame 0x26 (putWord (Machine.packDpm d))
  | .unpackDpm w => hostFrame 0x27 (putWord w)
  | .encodeChannel cfg ctx board => hostFrame 0x28 (putConfig cfg ++ (putContext ctx ++ putBoard board))
  | .decodeChannel w ctx => hostFrame 0x29 (putWord w ++ putContext ctx)
  | .chopKhz base sel => hostFrame 0x30 (putClockBase base ++ putBits sel)
  | .codeFromMa full ma => hostFrame 0x31 (putEng full ++ putEng ma)
  | .maFromCode full code => hostFrame 0x32 (putRat full ++ putBits code)
  | .codeFromDuty pct base sel src => hostFrame 0x33 (putEng pct ++ (putClockBase base ++ (putBits sel ++ putFlag src)))
  | .dutyFromCode code => hostFrame 0x34 (putBits code)
  | .dutyLimits base sel src => hostFrame 0x35 (putClockBase base ++ (putBits sel ++ putFlag src))
  | .codeFromMs ms khz => hostFrame 0x36 (putEng ms ++ putKhz khz)
  | .msFromCode code khz => hostFrame 0x37 (putByte code ++ putKhz khz)
  | .dutyCodeLinear pct => hostFrame 0x38 (putRat pct)
  | .quantizeChannel cfg ctx board => hostFrame 0x39 (putConfig cfg ++ (putContext ctx ++ putBoard board))
  | .dequantizeChannel r ctx => hostFrame 0x3A (putWord (Machine.packChannel r) ++ putContext ctx)
  | .initializeDevice => hostFrame 0x40 []
  | .deinitialize => hostFrame 0x41 []
  | .configureChannel ch cfg => hostFrame 0x42 (putNat ch ++ putConfig cfg)
  | .getChannelConfig ch => hostFrame 0x43 (putNat ch)
  | .setChannelsOn mask => hostFrame 0x44 (putByte mask)
  | .setChannelEnabled ch on => hostFrame 0x45 (putNat ch ++ putFlag on)
  | .setPairMode pair mode => hostFrame 0x46 (putNat pair ++ putPairMode mode)
  | .readStatus => hostFrame 0x47 []
  | .readFaults => hostFrame 0x48 []
  | .getDpmConfig => hostFrame 0x49 []
  | .setDpmConfig d => hostFrame 0x4A (putWord (Machine.packDpm d))
  | .setBoardScale b => hostFrame 0x4B (putBoardRequest b)
  | .rawWriteRegister bank w => hostFrame 0x4C (putBits bank ++ putWord w)
  | .rawReadRegister bank => hostFrame 0x4D (putBits bank)
  | .readFaultLine => hostFrame 0x4E []
  | .validateChannel cfg board => hostFrame 0x4F (putConfig cfg ++ putBoard board)
  | .ensureCache => hostFrame 0x50 []

/-! ### The words of spec/opcode_table.json -/

/-- The `k` low bytes of `w`, bits 7:0 first. -/
def lowBytes : Nat → Nat → List Byte
  | 0, _ => []
  | k + 1, w => BitVec.ofNat 8 w :: lowBytes k (w / 256)

/-- Zero padding: no operation whose operand bytes are all zero is longer. -/
def zeroPadding : List Byte := List.replicate 64 0

/-- The host operation identifiers of R99. -/
def isHostOp (b : Nat) : Bool :=
  (decide (0x01 ≤ b) && decide (b ≤ 0x06)) || (decide (0x10 ≤ b) && decide (b ≤ 0x13))
    || (decide (0x20 ≤ b) && decide (b ≤ 0x29)) || (decide (0x30 ≤ b) && decide (b ≤ 0x3A))
    || (decide (0x40 ≤ b) && decide (b ≤ 0x50))

/-- The format in which the bits of a table row are read: among the rows whose fixed bits agree the one with the most
fixed bits, and of rows without fixed bits the first of the table (log 4). -/
def tableFormat (nbits w : Nat) : Format :=
  if nbits ≤ 8 then
    if isHostOp w then .hostOp
    else if (BitVec.ofNat 8 w).extractLsb' 5 2 = 0 then .cmd8
    else .stat8
  else if w < 2 ^ 15 then .regCfgDpm
  else .data32w

/-- The frame of a table row's bits: `w` in bytes, bits 7:0 first, and zeros after it. R87 gives the bytes of DATA32W in
wire order and no bit numbers, so that bits 7:0 of the table's number are the byte exchanged first is the model's
(DESIGN CHOICE, log 4). -/
def tableFrame (nbits w : Nat) : Frame := ⟨tableFormat nbits w, lowBytes ((nbits + 7) / 8) w ++ zeroPadding⟩

/-- The operation the decoder reads from an instruction whose bits are `w`, numbered as spec/opcode_table.json numbers
them, every bit above `nbits` zero; `none` where it refuses. -/
def decodeTableWord (nbits w : Nat) : Option Instr :=
  match decode (tableFrame nbits w) with
  | .ok i => some i
  | .error _ => none

end Sys2Proof
end

