-- ==== Sys2Proof/Machine/State.lean ====
section
/-! DEFINITION. The state of the block (10_state.md R20), what the model carries beside it, and reset (R40, R300). -/

namespace Sys2Proof.Machine

/-- The two output lines (R12, R25). -/
inductive OutLine where
  | enable | cmdSel
deriving DecidableEq, Repr

/-- A call of a transport primitive with its arguments and its result: one event of the trace (R12). -/
inductive Event where
  /-- `SetLine(line, level)` -/
  | setLine (line : OutLine) (level : Level)
  /-- `Xfer(tx)`; `rx = none` is `Fail` -/
  | xfer (tx : List Byte) (rx : Option (List Byte))
  /-- `ReadLine(fault)` -/
  | readFault (level : Level)
  /-- `Delay(us)` -/
  | delay (us : Nat)
deriving DecidableEq, Repr

/-- The accepted command between its command phase and its data phase (R24). -/
structure Pending where
  bank    : Bank
  isWrite : Bool
  narrow  : Bool
deriving DecidableEq, Repr

/-- The two states of the Device State Manager (R28). -/
inductive DsmState where
  | uninitialized | active
deriving DecidableEq, Repr

/-- The environment as the block meets it (R4): answers already chosen, then the free values of Config. Each exchange
takes the head of `answers`, or where it is empty `Config.envXfer` at `xferCount` (log 2). -/
structure Env where
  answers   : List (Option Quad)
  lines     : List Level
  xferCount : Nat
  readCount : Nat
deriving DecidableEq, Repr

/-- What an operation returns with `Ok` (the results of R99). -/
inductive Value where
  | unit
  | commStatus (c : CommStatus)
  | word (w : Word)
  | byte (b : Byte)
  | lastStatus (b : Option Byte)
  | statusWord (x : StatusWord)
  | channelRaw (r : ChannelRaw)
  | channelConfig (c : ChannelConfig)
  | faultWord (f : FaultWord)
  | dpmConfig (d : DpmConfig)
  /-- an integer number of kHz, milliamps or percent -/
  | integer (n : Int)
  | code7 (c : Code7)
  | code8 (c : Code8)
  /-- `(lo, hi)` in percent -/
  | dutyRange (lo hi : Nat)
  /-- exact milliseconds -/
  | millis (q : Rat)
  | level (l : Level)
  /-- a register word read by its format, and the word its fields pack to (R151 to R159) -/
  | statusFormat (x : StatusWord) (packed : Word)
  | channelFormat (r : ChannelRaw) (packed : Word)
  | faultFormat (f : FaultWord) (packed : Word)
  | dpmFormat (d : DpmConfig) (packed : Word)
deriving DecidableEq, Repr

/-- What an operation returns to the host (R14): a value, one of the five kinds, or an engine primitive's
`TransportError`. -/
inductive OpResult where
  | ok (v : Value)
  | err (k : ErrorKind)
  | transportError
deriving DecidableEq, Repr

/-- The whole state. The first eight fields are the block's own (R20); the rest is the model's: the parameters of R9,
the environment, the event trace, the host's requests and the last result (R21). -/
@[ext]
structure State where
  /-- R23 -/
  lastStatus : Option Byte
  /-- R24 -/
  pending    : Option Pending
  /-- R25: the last level driven on the command-select line -/
  cmdSel     : Level
  /-- R25: the last level driven on the enable line -/
  enable     : Level
  /-- R28 -/
  dsmState   : DsmState
  /-- R29; without meaning while `cacheValid` is false -/
  cache      : StatusWord
  /-- R29 -/
  cacheValid : Bool
  /-- R30 -/
  board      : BoardScale
  /-- R9; no operation changes them (log 5) -/
  params     : Config.Params
  /-- R4 (log 2) -/
  env        : Env
  /-- R12: the calls of the primitives, oldest first (log 7) -/
  trace      : List Event
  /-- the operations the host has issued and the block has not run, the next one first (R5, log 1) -/
  requests   : List Frame
  /-- what the last operation returned (R14, log 8) -/
  result     : Option OpResult
deriving DecidableEq, Repr

/-- A reason for the machine to stop with a fault: there is none. An exceptional condition ends the operation and is
returned to the host as an error kind (60_exceptions.md R270, R279), after which the next operation is accepted
(R280). Safe: nothing is stopped. -/
inductive Fault where
deriving DecidableEq, Repr

/-- Why a step gives no meaning. -/
inductive Refusal where
  /-- an operation without a meaning: raised by `exec` alone; safe. No arm of `exec` raises it. -/
  | notModelled (mnemonic : String)
  /-- `ProtocolViolation` (R128, R277): a data-phase operation without its pending command, raised by the eight
  data-phase operations; the spec gives the run no meaning; safe. -/
  | protocolViolation
  /-- the request at the head of the port is no encoding of an operation (R97, I1), raised by `step`; safe. -/
  | undecodable (e : DecodeError)
deriving DecidableEq, Repr

/-- The outcome of one operation or one step. -/
abbrev StepResult := Host.Outcome State Fault Refusal

/-- The cache at reset: "unspecified" in R40; all zero is DESIGN CHOICE, unsafe (log 6). -/
def resetCache : StatusWord where
  channelsOn := 0
  faultMask := 0
  clockBase := .base100k
  pairMode := ⟨.independent, .independent, .independent, .independent⟩
  faultFlags := 0
  globalEnable := false

/-- The state after reset (R40, R300): no transport call is made and the trace is empty. -/
def State.reset : State where
  lastStatus := none
  pending := none
  cmdSel := .deasserted
  enable := .deasserted
  dsmState := .uninitialized
  cache := resetCache
  cacheValid := false
  board := ⟨0, none, none⟩
  params := Config.Params.default
  env := ⟨[], [], 0, 0⟩
  trace := []
  requests := []
  result := none

end Sys2Proof.Machine
end

