-- ==== Sys2Proof/Machine/Ops.lean ====
section
/-! DEFINITION. The named operations over the state: the updates of its fields, the four transport primitives (R12), and
ending an operation with a value or with an error (R13, R14, R278, R279). There is no memory and no trap entry: raising
an error is the one exceptional operation, and there is no return from it (R280). -/

namespace Sys2Proof.Machine

/-! ### Field updates -/

/-- `last_status <- some(b)` (R23). -/
def State.withLastStatus (b : Byte) (s : State) : State := { s with lastStatus := some b }
/-- `pending <- p` (R24). -/
def State.withPending (p : Option Pending) (s : State) : State := { s with pending := p }
/-- `dsm_state <- d` (R28). -/
def State.withDsm (d : DsmState) (s : State) : State := { s with dsmState := d }
/-- `cache <- x` (R29). -/
def State.withCache (x : StatusWord) (s : State) : State := { s with cache := x }
/-- `cache_valid <- v` (R29). -/
def State.withCacheValid (v : Bool) (s : State) : State := { s with cacheValid := v }
/-- `board <- b` (R30). -/
def State.withBoard (b : BoardScale) (s : State) : State := { s with board := b }
/-- The value returned to the host (R14). -/
def State.withResult (r : OpResult) (s : State) : State := { s with result := some r }
/-- The requests of the host (R5). -/
def State.withRequests (rs : List Frame) (s : State) : State := { s with requests := rs }
/-- The environment after some of its answers. -/
def State.withEnv (e : Env) (s : State) : State := { s with env := e }
/-- Append an event to the trace (R12). -/
def State.record (e : Event) (s : State) : State := { s with trace := s.trace ++ [e] }

/-! ### The environment's answers (R4, log 2) -/

/-- The answer the environment gives to the `k`-th exchange from here: scripted, or free. -/
def answerAt (e : Env) (k : Nat) : Option Quad :=
  match e.answers[k]? with
  | some a => a
  | none => Config.envXfer (e.xferCount + k)

/-- The environment after `k` exchanges. -/
def afterXfers (e : Env) (k : Nat) : Env :=
  { e with answers := e.answers.drop k, xferCount := e.xferCount + k }

/-- The level the environment shows at the next read of the fault line. -/
def lineAnswer (e : Env) : Level :=
  match e.lines with
  | l :: _ => l
  | [] => Config.envFaultLine e.readCount

/-- The environment after one read of the fault line. -/
def afterRead (e : Env) : Env := { e with lines := e.lines.drop 1, readCount := e.readCount + 1 }

/-- The received bytes of an exchange of `n` bytes: as many as were sent (R12). -/
def received (a : Option Quad) (n : Nat) : Option (List Byte) := a.map fun q => (quadBytes q).take n

/-! ### The four primitives (R12) -/

/-- `SetLine(line, level)`: drives the line and records the call. -/
def setLine (l : OutLine) (v : Level) (s : State) : State :=
  match l with
  | .enable => ({ s with enable := v }).record (.setLine .enable v)
  | .cmdSel => ({ s with cmdSel := v }).record (.setLine .cmdSel v)

/-- `Xfer(tx)` whose answer is `a`: recorded, and counted. -/
def exchange (tx : List Byte) (a : Option Quad) (e : Env) (s : State) : State × Option Quad :=
  ((s.withEnv e).record (.xfer tx (received a tx.length)), a)

/-- `Xfer(tx)` answered by the environment. -/
def xfer (tx : List Byte) (s : State) : State × Option Quad :=
  exchange tx (answerAt s.env 0) (afterXfers s.env 1) s

/-- `Xfer(tx)` whose received bytes the operation itself names (the rows DATA32R and DATA8R, log 11): no answer that is
already chosen is taken. -/
def xferGiven (tx : List Byte) (q : Quad) (s : State) : State × Option Quad :=
  exchange tx (some q) { s.env with xferCount := s.env.xferCount + 1 } s

/-- `ReadLine(fault)` (R236). -/
def readLine (s : State) : State × Level :=
  ((s.withEnv (afterRead s.env)).record (.readFault (lineAnswer s.env)), lineAnswer s.env)

/-- `Delay(us)` (R286). -/
def delay (us : Nat) (s : State) : State := s.record (.delay us)

/-! ### The end of an operation (R13, R14) -/

/-- `raise <Error>`: the operation ends at once with the kind; what was written stays written (R13, R279). -/
def raise {α : Type} (k : ErrorKind) (s : State) : State × Except ErrorKind α := (s, .error k)

/-- `return v`. -/
def done {α : Type} (a : α) (s : State) : State × Except ErrorKind α := (s, .ok a)

/-- `e <- T(...); if e = Err(k): return Err(k)`, written `try T(...)` in 43_device_state_manager.md. -/
def andThen {α β : Type} (p : State × Except ErrorKind α) (k : α → State → State × Except ErrorKind β) :
    State × Except ErrorKind β :=
  match p.2 with
  | .error e => (p.1, .error e)
  | .ok a => k a p.1

/-- The result the host sees of an operation that ends with a value or a kind. -/
def resultOf {α : Type} (value : α → Value) : Except ErrorKind α → OpResult
  | .ok a => .ok (value a)
  | .error k => .err k

/-- An operation has ended: its result goes to the host (R14). -/
def deliver {α : Type} (value : α → Value) (p : State × Except ErrorKind α) : StepResult :=
  .next (p.1.withResult (resultOf value p.2))

/-- A combinational operation has ended: nothing but the result is written (R150, R180). -/
def deliverPure (r : OpResult) (s : State) : StepResult := .next (s.withResult r)

/-! ### The pins (R25, R26, log 31) -/

/-- The other electrical level. -/
def otherLevel : Config.Electrical → Config.Electrical
  | .low => .high
  | .high => .low

/-- The electrical level of a line whose asserted level is `active`. -/
def pinLevel (active : Config.Electrical) : Level → Config.Electrical
  | .asserted => active
  | .deasserted => otherLevel active

/-- The command-select pin (R25). -/
def cmdSelPin (s : State) : Config.Electrical := pinLevel Config.cmdActiveLevel s.cmdSel
/-- The enable pin (R25). -/
def enablePin (s : State) : Config.Electrical := pinLevel Config.enableActiveLevel s.enable
/-- The fault pin at a level: asserted is low (R26). -/
def faultPin (l : Level) : Config.Electrical := pinLevel .low l

end Sys2Proof.Machine
end

