-- ==== Sys2Proof/Machine/Flags.lean ====
section
/-! DEFINITION. The block has no condition codes (R27). Its status-like values are computed here: the communication-error
bit of a status byte, the invalidation of the cache by a write that bypasses the manager, and the numbers of the error
kinds. -/

namespace Sys2Proof.Machine

/-- `comm_error = (status = COMM_ERR_CODE)`: equality of the whole byte (R122). -/
def commError (p : Config.Params) (b : Byte) : Bool := b == p.commErrCode

/-- The `CommStatus` of a status byte (R121, R122). -/
def commStatusOf (p : Config.Params) (b : Byte) : CommStatus := ⟨b, commError p b⟩

/-- A write to bank 0 that the host itself issues at engine level clears `cache_valid` at the start of the operation
(R243, R66). -/
def bypass (bank : Bank) (isWrite : Bool) (s : State) : State :=
  if isWrite ∧ bank = 0 then s.withCacheValid false else s

/-- The number of an error kind (R270). -/
def errorCode : ErrorKind → Nat
  | .initializationFailure => 1
  | .communicationError => 2
  | .invalidParameter => 3
  | .hardwareFault => 4
  | .timeout => 5

/-- The number of a result; `TransportError` is no error kind and has none (R270). -/
def resultCode : OpResult → Option Nat
  | .ok _ => some 0
  | .err k => some (errorCode k)
  | .transportError => none

end Sys2Proof.Machine
end

