-- ==== Sys2Proof/Machine/Operands.lean ====
section
/-! DEFINITION. The tests of operands that come before any transport call (R224, R273, R278). -/

namespace Sys2Proof.Machine

/-- A channel index in 0..7 (R15, R224). -/
def channelValid (ch : Nat) : Bool := decide (ch < Config.nChannels)

/-- A pair index in 0..3 (R231). -/
def pairValid (pair : Nat) : Bool := decide (pair < 4)

/-- A bank that `rawWriteRegister` may write: 0 to 8 and 10 (R235). -/
def rawWritable (bank : Bank) : Bool := bankValid bank && bank != 9

/-- The register of channel `ch` (R51); the callers give a valid channel. -/
def channelBank (ch : Nat) : Bank := BitVec.ofNat 4 (1 + ch)

/-- The pending command is the one a data phase of this direction and width belongs to (R123 to R126). -/
def pendingMatches (isWrite narrow : Bool) (s : State) : Bool :=
  match s.pending with
  | none => false
  | some p => p.isWrite == isWrite && p.narrow == narrow

/-- A value that is not finite (R197). -/
def isNonFinite : EngValue → Bool
  | .nonFinite => true
  | .finite _ => false

/-- The rational of a value that is finite and not negative (R234). -/
def nonNegative : EngValue → Option Rat
  | .nonFinite => none
  | .finite q => if 0 ≤ q then some q else none

/-- A ceiling that is absent, or present, finite and not negative (R234). -/
def ceilingOf : Option EngValue → Option (Option Rat)
  | none => some none
  | some v => (nonNegative v).map some

/-- The board scale of a request, `none` where R234 rejects it. -/
def boardOf (b : BoardRequest) : Option BoardScale :=
  match nonNegative b.fullScaleMa, ceilingOf b.maxCurrentMa, ceilingOf b.maxDutyPct with
  | some f, some i, some d => some ⟨f, i, d⟩
  | _, _, _ => none

/-- The pre-flight check of a channel configuration (R226): a non-finite value, `Current` on the high side, a low-side
feature on the high side, or `Current` with the full scale unset. -/
def validateChannel (cfg : ChannelConfig) (board : BoardScale) : Except ErrorKind Unit :=
  if isNonFinite cfg.hitSetpoint ∨ isNonFinite cfg.holdSetpoint ∨ isNonFinite cfg.hitTimeMs then
    .error .invalidParameter
  else if cfg.driveMode = .current ∧ cfg.sideMode = .highSide then .error .invalidParameter
  else if cfg.sideMode = .highSide ∧ (cfg.halfScale ∨ cfg.slewRateControl ∨ cfg.plungerDetectEn) then
    .error .invalidParameter
  else if cfg.driveMode = .current ∧ board.fullScaleMa = 0 then .error .invalidParameter
  else .ok ()

end Sys2Proof.Machine
end

