-- ==== Sys2Proof/Machine/Codec.lean ====
section
/-! DEFINITION. The meanings of the Register Codec operations `0x20` to `0x29` (41_register_codec.md): combinational, the
result alone is written. -/

namespace Sys2Proof.Machine

/-- `packStatus` (R151). -/
def execPackStatus (x : StatusWord) (s : State) : StepResult := deliverPure (.ok (.word (packStatus x))) s

/-- `unpackStatus` (R152). -/
def execUnpackStatus (w : Word) (s : State) : StepResult := deliverPure (.ok (.statusWord (unpackStatus w))) s

/-- `packChannel` (R154). -/
def execPackChannel (r : ChannelRaw) (s : State) : StepResult := deliverPure (.ok (.word (packChannel r))) s

/-- `unpackChannel` (R155). -/
def execUnpackChannel (w : Word) (s : State) : StepResult := deliverPure (.ok (.channelRaw (unpackChannel w))) s

/-- `packFault` (R156). -/
def execPackFault (f : FaultWord) (s : State) : StepResult := deliverPure (.ok (.word (packFault f))) s

/-- `unpackFault` (R157). -/
def execUnpackFault (w : Word) (s : State) : StepResult := deliverPure (.ok (.faultWord (unpackFault w))) s

/-- `packDpm` (R158). -/
def execPackDpm (d : DpmConfig) (s : State) : StepResult := deliverPure (.ok (.word (packDpm d))) s

/-- `unpackDpm` (R159). -/
def execUnpackDpm (w : Word) (s : State) : StepResult := deliverPure (.ok (.dpmConfig (unpackDpm w))) s

/-- `encodeChannel` (R161). -/
def execEncodeChannel (cfg : ChannelConfig) (ctx : ConvContext) (board : BoardScale) (s : State) : StepResult :=
  deliverPure (resultOf .word (encodeChannel s.params cfg ctx board)) s

/-- `decodeChannel` (R162). -/
def execDecodeChannel (w : Word) (ctx : ConvContext) (s : State) : StepResult :=
  deliverPure (.ok (.channelConfig (decodeChannel w ctx))) s

end Sys2Proof.Machine
end

