-- ==== Sys2Proof/Machine/Conversion.lean ====
section
/-! DEFINITION. The meanings of the Unit Conversion operations `0x30` to `0x3A` (42_unit_conversion.md): combinational,
the result alone is written. -/

namespace Sys2Proof.Machine

/-- `chopKhz` (R181). -/
def execChopKhz (base : ClockBase) (sel : Sel2) (s : State) : StepResult :=
  deliverPure (.ok (.integer (chopKhz base sel))) s

/-- `codeFromMa` (R182). -/
def execCodeFromMa (full ma : EngValue) (s : State) : StepResult :=
  deliverPure (resultOf .code7 (codeFromMa full ma)) s

/-- `maFromCode` (R183). -/
def execMaFromCode (full : Rat) (code : Code7) (s : State) : StepResult :=
  deliverPure (.ok (.integer (maFromCode full code))) s

/-- `codeFromDuty` (R189). -/
def execCodeFromDuty (pct : EngValue) (base : ClockBase) (sel : Sel2) (src : Bool) (s : State) : StepResult :=
  deliverPure (resultOf .code7 (codeFromDuty s.params pct base sel src)) s

/-- `dutyFromCode` (R186). -/
def execDutyFromCode (code : Code7) (s : State) : StepResult := deliverPure (.ok (.integer (dutyFromCode code))) s

/-- `dutyLimits` (R187). -/
def execDutyLimits (base : ClockBase) (sel : Sel2) (src : Bool) (s : State) : StepResult :=
  deliverPure (resultOf (fun r => .dutyRange r.1 r.2) (dutyLimits s.params base sel src)) s

/-- `codeFromMs` (R190). -/
def execCodeFromMs (ms : EngValue) (khz : Nat) (s : State) : StepResult :=
  deliverPure (resultOf .code8 (codeFromMs ms khz)) s

/-- `msFromCode` (R191). -/
def execMsFromCode (code : Code8) (khz : Nat) (s : State) : StepResult :=
  deliverPure (.ok (.millis (msFromCode code khz))) s

/-- `dutyCodeLinear` (R185). -/
def execDutyCodeLinear (pct : Rat) (s : State) : StepResult := deliverPure (.ok (.code7 (dutyCodeLinear pct))) s

/-- `quantizeChannel` (R194). -/
def execQuantizeChannel (cfg : ChannelConfig) (ctx : ConvContext) (board : BoardScale) (s : State) : StepResult :=
  deliverPure (resultOf .channelRaw (quantizeChannel s.params cfg ctx board)) s

/-- `dequantizeChannel` (R195). -/
def execDequantizeChannel (r : ChannelRaw) (ctx : ConvContext) (s : State) : StepResult :=
  deliverPure (.ok (.channelConfig (dequantizeChannel r ctx))) s

end Sys2Proof.Machine
end

