-- ==== Sys2Proof/Machine/Engine.lean ====
section
/-! DEFINITION. The Protocol Engine (40_protocol_engine.md): the command phase, the data phases, the register
transactions, and the meanings of the operations `0x01` to `0x13`. -/

namespace Sys2Proof.Machine

/-- Why an engine primitive fails (R14, R121). -/
inductive EngineError where
  | invalidParameter
  | transportError
deriving DecidableEq, Repr

/-! ### The two phases -/

/-- `writeCommand` (R121). The line is deasserted whatever the exchange answers. -/
def writeCommand (bank : Bank) (isWrite narrow : Bool) (s : State) : State × Except EngineError CommStatus :=
  if bankValid bank then
    let x := xfer [commandByte bank isWrite narrow] (setLine .cmdSel .asserted s)
    let s' := setLine .cmdSel .deasserted x.1
    match x.2 with
    | none => (s'.withPending none, .error .transportError)
    | some q =>
      ((s'.withLastStatus q.b0).withPending (some ⟨bank, isWrite, narrow⟩), .ok (commStatusOf s.params q.b0))
  else (s, .error .invalidParameter)

/-- The data phase of a full write once its command is pending (R123); the received bytes are discarded. -/
def sendData32 (w : Word) (s : State) : State × Option Unit :=
  let x := xfer (quadBytes (data32wBytes w)) (s.withPending none)
  (x.1, x.2.map fun _ => ())

/-- The four fill bytes of a full read (R124). -/
def fill32 (p : Config.Params) : List Byte := [p.txFill, p.txFill, p.txFill, p.txFill]

/-- The data phase of a full read once its command is pending (R124). -/
def receiveData32 (s : State) : State × Option Word :=
  let x := xfer (fill32 s.params) (s.withPending none)
  (x.1, x.2.map data32rWord)

/-- The data phase of a narrow write once its command is pending (R125). -/
def sendData8 (b : Byte) (s : State) : State × Option Unit :=
  let x := xfer [b] (s.withPending none)
  (x.1, x.2.map fun _ => ())

/-- The data phase of a narrow read once its command is pending (R126). -/
def receiveData8 (s : State) : State × Option Byte :=
  let x := xfer [s.params.txFill] (s.withPending none)
  (x.1, x.2.map Quad.b0)

/-! ### Register transactions (R130 to R134) -/

/-- A register transaction: the command phase, and unless it failed or its status byte is the communication-error code,
the data phase (R130). A failed exchange and the error code both give `CommunicationError` (R271, R272). -/
def transact {α : Type} (bank : Bank) (isWrite narrow : Bool) (phase : State → State × Option α) (s : State) :
    State × Except ErrorKind α :=
  let c := writeCommand bank isWrite narrow s
  match c.2 with
  | .error .invalidParameter => raise .invalidParameter c.1
  | .error .transportError => raise .communicationError c.1
  | .ok st =>
    if st.commError then raise .communicationError (c.1.withPending none)
    else
      let d := phase c.1
      match d.2 with
      | none => raise .communicationError d.1
      | some a => done a d.1

/-- `WriteReg32` (R131). -/
def writeReg32 (bank : Bank) (w : Word) (s : State) : State × Except ErrorKind Unit :=
  transact bank true false (sendData32 w) s

/-- `ReadReg32` (R132). -/
def readReg32 (bank : Bank) (s : State) : State × Except ErrorKind Word :=
  transact bank false false receiveData32 s

/-- `WriteReg8` (R133). -/
def writeReg8 (bank : Bank) (b : Byte) (s : State) : State × Except ErrorKind Unit :=
  transact bank true true (sendData8 b) s

/-- `ReadReg8` (R134). -/
def readReg8 (bank : Bank) (s : State) : State × Except ErrorKind Byte :=
  transact bank false true receiveData8 s

/-! ### Meanings -/

/-- The result of an engine primitive that ends with a value or an engine error (R14). -/
def engineResult {α : Type} (value : α → Value) : Except EngineError α → OpResult
  | .ok a => .ok (value a)
  | .error .invalidParameter => .err .invalidParameter
  | .error .transportError => .transportError

/-- The result of a data phase (R120). -/
def phaseResult {α : Type} (value : α → Value) : Option α → OpResult
  | none => .transportError
  | some a => .ok (value a)

/-- A data-phase operation: refused as `ProtocolViolation` unless its command is pending (R128). -/
def dataPhase {α : Type} (isWrite narrow : Bool) (value : α → Value) (phase : State → State × Option α) (s : State) :
    StepResult :=
  if pendingMatches isWrite narrow s then
    let d := phase s
    .next (d.1.withResult (phaseResult value d.2))
  else .refused .protocolViolation

/-- `writeCommand` issued by the host (R121, R243). -/
def execWriteCommand (bank : Bank) (isWrite narrow : Bool) (s : State) : StepResult :=
  let c := writeCommand bank isWrite narrow (bypass bank isWrite s)
  .next (c.1.withResult (engineResult .commStatus c.2))

/-- `writeData32` (R123). -/
def execWriteData32 (w : Word) (s : State) : StepResult := dataPhase true false (fun _ => .unit) (sendData32 w) s

/-- `readData32` (R124). -/
def execReadData32 (s : State) : StepResult := dataPhase false false .word receiveData32 s

/-- `writeData8` (R125). -/
def execWriteData8 (b : Byte) (s : State) : StepResult := dataPhase true true (fun _ => .unit) (sendData8 b) s

/-- `readData8` (R126). -/
def execReadData8 (s : State) : StepResult := dataPhase false true .byte receiveData8 s

/-- `getLastStatus` (R127): no transport call. -/
def execGetLastStatus (s : State) : StepResult := deliverPure (.ok (.lastStatus s.lastStatus)) s

/-- `WriteReg32` issued by the host (R131, R243). -/
def execWriteReg32 (bank : Bank) (w : Word) (s : State) : StepResult :=
  deliver (fun _ => .unit) (writeReg32 bank w (bypass bank true s))

/-- `ReadReg32` issued by the host (R132). -/
def execReadReg32 (bank : Bank) (s : State) : StepResult := deliver .word (readReg32 bank s)

/-- `WriteReg8` issued by the host (R133, R243). -/
def execWriteReg8 (bank : Bank) (b : Byte) (s : State) : StepResult :=
  deliver (fun _ => .unit) (writeReg8 bank b (bypass bank true s))

/-- `ReadReg8` issued by the host (R134). -/
def execReadReg8 (bank : Bank) (s : State) : StepResult := deliver .byte (readReg8 bank s)

end Sys2Proof.Machine
end

