-- ==== Sys2Proof/Machine/Manager.lean ====
section
/-! DEFINITION. The Device State Manager (43_device_state_manager.md): the operations `0x40` to `0x50`. The checks come in
the order of R224: index operands, the sequencer's state, value operands, the forced re-read, checks that need the
cache, the transfers. -/

namespace Sys2Proof.Machine

/-- An operation that needs `Active` (R220, R285): in `Uninitialized` it answers `ERR_NOT_ACTIVE` (R276). -/
def whenActive {α : Type} (k : State → State × Except ErrorKind α) (s : State) : State × Except ErrorKind α :=
  match s.dsmState with
  | .uninitialized => raise s.params.errNotActive s
  | .active => k s

/-- An index check, the first of R224. -/
def whenIndex {α : Type} (ok : Bool) (k : State → State × Except ErrorKind α) (s : State) :
    State × Except ErrorKind α :=
  if ok then k s else raise .invalidParameter s

/-- `cache <- unpackStatus(w); cache_valid <- 1` (R221, R233, R238). -/
def loadCache (w : Word) (s : State) : State := (s.withCache (unpackStatus w)).withCacheValid true

/-! ### The cache (R238) -/

/-- `ensureCache` (R238): the forced re-read of STATUS. -/
def ensureCache (s : State) : State × Except ErrorKind Unit :=
  if s.cacheValid then done () s
  else andThen (readReg32 0 s) fun w s' => done () (loadCache w s')

/-! ### initialize and deinitialize (R221, R223) -/

/-- The word an attempt of `initialize` writes: the word just read with all channels off and the device enabled. -/
def initWord (w : Word) : Word :=
  packStatus { unpackStatus w with channelsOn := 0, globalEnable := true }

/-- One attempt of `initialize` (R221): read STATUS, write it, re-read it; the word re-read. -/
def initAttempt (s : State) : State × Except ErrorKind Word :=
  andThen (readReg32 0 s) fun w s1 =>
    andThen (writeReg32 0 (initWord w) s1) fun _ s2 => readReg32 0 s2

/-- The attempts left of `initialize` (R221, R222). -/
def initLoop : Nat → State → State × Except ErrorKind Unit
  | 0, s => raise .communicationError ((s.withDsm .uninitialized).withCacheValid false)
  | n + 1, s =>
    let a := initAttempt s
    match a.2 with
    | .error _ => initLoop n a.1
    | .ok w => done () ((loadCache w a.1).withDsm .active)

/-- `initialize` (R221). -/
def initialise (s : State) : State × Except ErrorKind Unit :=
  initLoop Config.initAttempts (delay Config.powerUpDelayUs (setLine .enable .asserted s))

/-- The status write of `deinitialize` in `Active` (R223). -/
def shutDown (s : State) : State × Except ErrorKind Unit :=
  andThen (ensureCache s) fun _ s' =>
    writeReg32 0 (packStatus { s'.cache with channelsOn := 0, globalEnable := false }) s'

/-- `deinitialize` (R223): ends in `Uninitialized` with the enable line deasserted, whatever the write answers. -/
def deinitialise (s : State) : State × Except ErrorKind Unit :=
  let e : State × Except ErrorKind Unit :=
    match s.dsmState with
    | .active => shutDown s
    | .uninitialized => done () s
  (((setLine .enable .deasserted e.1).withDsm .uninitialized).withCacheValid false, e.2)

/-! ### Channels (R225 to R232) -/

/-- The context of a channel conversion (R228). -/
def contextOf (s : State) : ConvContext := ⟨s.board.fullScaleMa, s.cache.clockBase⟩

/-- `configureChannel` (R225). -/
def configureChannel (ch : Nat) (cfg : ChannelConfig) : State → State × Except ErrorKind Unit :=
  whenIndex (channelValid ch) <| whenActive fun s =>
    match validateChannel cfg s.board with
    | .error _ => raise .invalidParameter s
    | .ok _ =>
      andThen (ensureCache s) fun _ s' =>
        match encodeChannel s'.params cfg (contextOf s') s'.board with
        | .error _ => raise .invalidParameter s'
        | .ok w => writeReg32 (channelBank ch) w s'

/-- `getChannelConfig` (R227). -/
def getChannelConfig (ch : Nat) : State → State × Except ErrorKind ChannelConfig :=
  whenIndex (channelValid ch) <| whenActive fun s =>
    andThen (ensureCache s) fun _ s1 =>
      andThen (readReg32 (channelBank ch) s1) fun w s2 => done (decodeChannel w (contextOf s2)) s2

/-- `if cache_valid = 1: cache.channels_on <- mask` (R229). -/
def noteChannelsOn (mask : Byte) (s : State) : State :=
  if s.cacheValid then s.withCache { s.cache with channelsOn := mask } else s

/-- `setChannelsOn` (R229). -/
def setChannelsOn (mask : Byte) : State → State × Except ErrorKind Unit :=
  whenActive fun s => andThen (writeReg8 0 mask s) fun _ s' => done () (noteChannelsOn mask s')

/-- The channel mask with channel `ch` switched (R230). -/
def switchChannel (mask : Byte) (ch : Nat) (on : Bool) : Byte :=
  if on then mask ||| (1#8 <<< ch) else mask &&& ~~~(1#8 <<< ch)

/-- `setChannelEnabled` (R230). -/
def setChannelEnabled (ch : Nat) (on : Bool) : State → State × Except ErrorKind Unit :=
  whenIndex (channelValid ch) <| whenActive fun s =>
    andThen (ensureCache s) fun _ s' => setChannelsOn (switchChannel s'.cache.channelsOn ch on) s'

/-- A channel of the pair is on in the cache (R231). -/
def pairOn (pair : Nat) (x : StatusWord) : Bool :=
  x.channelsOn.getLsbD (2 * pair) || x.channelsOn.getLsbD (2 * pair + 1)

/-- The cached status word with the mode of a pair changed (R231). -/
def statusWithPair (pair : Nat) (mode : PairMode) (x : StatusWord) : StatusWord :=
  { x with pairMode := pairModeSet x.pairMode pair mode }

/-- `setPairMode` (R231): refused with `InvalidParameter` while a channel of the pair is on. -/
def setPairMode (pair : Nat) (mode : PairMode) : State → State × Except ErrorKind Unit :=
  whenIndex (pairValid pair) <| whenActive fun s =>
    if mode = .reserved3 then raise .invalidParameter s
    else
      andThen (ensureCache s) fun _ s1 =>
        if pairOn pair s1.cache then raise .invalidParameter s1
        else
          andThen (writeReg32 0 (packStatus (statusWithPair pair mode s1.cache)) s1) fun _ s2 =>
            done () (s2.withCache (statusWithPair pair mode s1.cache))

/-! ### Status, faults, plunger detection, board scale, raw access (R233 to R241) -/

/-- `readStatus` (R233). -/
def readStatus : State → State × Except ErrorKind StatusWord :=
  whenActive fun s => andThen (readReg32 0 s) fun w s' => done (unpackStatus w) (loadCache w s')

/-- `readFaults` (R237): the word is delivered once. -/
def readFaults : State → State × Except ErrorKind FaultWord :=
  whenActive fun s => andThen (readReg32 9 s) fun w s' => done (unpackFault w) s'

/-- `getDpmConfig` (R239). -/
def getDpmConfig : State → State × Except ErrorKind DpmConfig :=
  whenActive fun s => andThen (readReg32 10 s) fun w s' => done (unpackDpm w) s'

/-- `setDpmConfig` (R240). -/
def setDpmConfig (d : DpmConfig) : State → State × Except ErrorKind Unit :=
  whenActive (writeReg32 10 (packDpm d))

/-- `setBoardScale` (R234): no transport call, in both states. -/
def setBoardScale (b : BoardRequest) (s : State) : State × Except ErrorKind Unit :=
  match boardOf b with
  | none => raise .invalidParameter s
  | some v => done () (s.withBoard v)

/-- `rawWriteRegister` (R235): the cache is invalid before the transfer, whatever its outcome, when bank 0 is written. -/
def rawWriteRegister (bank : Bank) (w : Word) : State → State × Except ErrorKind Unit :=
  whenIndex (rawWritable bank) <| whenActive fun s => writeReg32 bank w (bypass bank true s)

/-- `rawReadRegister` (R241): the cache is neither loaded nor invalidated. -/
def rawReadRegister (bank : Bank) : State → State × Except ErrorKind Word :=
  whenIndex (bankValid bank) <| whenActive (readReg32 bank)

/-! ### Meanings -/

/-- `initialize` (R221). -/
def execInitialize (s : State) : StepResult := deliver (fun _ => .unit) (initialise s)

/-- `deinitialize` (R223). -/
def execDeinitialize (s : State) : StepResult := deliver (fun _ => .unit) (deinitialise s)

/-- `configureChannel` (R225). -/
def execConfigureChannel (ch : Nat) (cfg : ChannelConfig) (s : State) : StepResult :=
  deliver (fun _ => .unit) (configureChannel ch cfg s)

/-- `getChannelConfig` (R227). -/
def execGetChannelConfig (ch : Nat) (s : State) : StepResult := deliver .channelConfig (getChannelConfig ch s)

/-- `setChannelsOn` (R229). -/
def execSetChannelsOn (mask : Byte) (s : State) : StepResult := deliver (fun _ => .unit) (setChannelsOn mask s)

/-- `setChannelEnabled` (R230). -/
def execSetChannelEnabled (ch : Nat) (on : Bool) (s : State) : StepResult :=
  deliver (fun _ => .unit) (setChannelEnabled ch on s)

/-- `setPairMode` (R231). -/
def execSetPairMode (pair : Nat) (mode : PairMode) (s : State) : StepResult :=
  deliver (fun _ => .unit) (setPairMode pair mode s)

/-- `readStatus` (R233). -/
def execReadStatus (s : State) : StepResult := deliver .statusWord (readStatus s)

/-- `readFaults` (R237). -/
def execReadFaults (s : State) : StepResult := deliver .faultWord (readFaults s)

/-- `getDpmConfig` (R239). -/
def execGetDpmConfig (s : State) : StepResult := deliver .dpmConfig (getDpmConfig s)

/-- `setDpmConfig` (R240). -/
def execSetDpmConfig (d : DpmConfig) (s : State) : StepResult := deliver (fun _ => .unit) (setDpmConfig d s)

/-- `setBoardScale` (R234). -/
def execSetBoardScale (b : BoardRequest) (s : State) : StepResult := deliver (fun _ => .unit) (setBoardScale b s)

/-- `rawWriteRegister` (R235). -/
def execRawWriteRegister (bank : Bank) (w : Word) (s : State) : StepResult :=
  deliver (fun _ => .unit) (rawWriteRegister bank w s)

/-- `rawReadRegister` (R241). -/
def execRawReadRegister (bank : Bank) (s : State) : StepResult := deliver .word (rawReadRegister bank s)

/-- `readFaultLine` (R236): one read of the line, in both states. -/
def execReadFaultLine (s : State) : StepResult :=
  .next ((readLine s).1.withResult (.ok (.level (readLine s).2)))

/-- `validateChannel` (R226): combinational. -/
def execValidateChannel (cfg : ChannelConfig) (board : BoardScale) (s : State) : StepResult :=
  deliverPure (resultOf (fun _ => .unit) (validateChannel cfg board)) s

/-- `ensureCache` (R238) run by itself (log 14): it reads a register, so it needs `Active` (R220, R285), and nothing before
`initialize` makes a register access through the manager (R301). -/
def execEnsureCache (s : State) : StepResult := deliver (fun _ => .unit) (whenActive ensureCache s)

end Sys2Proof.Machine
end

