-- ==== Sys2Proof/Machine/Wire.lean ====
section
/-! DEFINITION. The rows of spec/opcode_table.json that are formats of the wire and of the registers, as operations:
the wire view of a register access (R96, R100), the status byte (R94, R122), the data phases given by their bytes
(R87 to R89) and the register words (R90 to R93). What such a row does when it is run alone is fixed in log 10 to 13. -/

namespace Sys2Proof.Machine

/-- `RD32 bank` (R100): `writeCommand(bank, false, false); readData32()` with the abort rule of R130. -/
def execRd32 (bank : Bank) (s : State) : StepResult := deliver .word (readReg32 bank s)

/-- `WR32 bank, word` (R100): `writeCommand(bank, true, false); writeData32(word)` with the abort rule of R130. -/
def execWr32 (bank : Bank) (w : Word) (s : State) : StepResult :=
  deliver (fun _ => .unit) (writeReg32 bank w (bypass bank true s))

/-- `RD8 bank` (R100): `writeCommand(bank, false, true); readData8()` with the abort rule of R130. -/
def execRd8 (bank : Bank) (s : State) : StepResult := deliver .byte (readReg8 bank s)

/-- `WR8 bank, byte` (R100): `writeCommand(bank, true, true); writeData8(byte)` with the abort rule of R130. -/
def execWr8 (bank : Bank) (b : Byte) (s : State) : StepResult :=
  deliver (fun _ => .unit) (writeReg8 bank b (bypass bank true s))

/-- `STAT8`: the block interprets a status byte in one way only, it compares the whole byte with `COMM_ERR_CODE` (R94,
R122). Retaining it belongs to the command phase that received it (R23), and this row makes no exchange (log 10). -/
def execStat8 (b : Byte) (s : State) : StepResult := deliverPure (.ok (.commStatus (commStatusOf s.params b))) s

/-- `DATA32W`: the data phase of a full write whose four wire bytes are `q` (R87, R123). -/
def execData32w (q : Quad) (s : State) : StepResult :=
  dataPhase true false (fun _ => .unit) (sendData32 (data32wWord q)) s

/-- The data phase of a full read in which the bytes received are `q` (R88, R124; log 11). -/
def receiveGiven32 (q : Quad) (s : State) : State × Option Word :=
  let x := xferGiven (fill32 s.params) q (s.withPending none)
  (x.1, x.2.map data32rWord)

/-- `DATA32R`: the data phase of a full read whose four wire bytes are `q` (R88, R124). -/
def execData32r (q : Quad) (s : State) : StepResult := dataPhase false false .word (receiveGiven32 q) s

/-- `DATA8W`: the data phase of a narrow write whose byte is `b` (R89, R125). -/
def execData8w (b : Byte) (s : State) : StepResult := dataPhase true true (fun _ => .unit) (sendData8 b) s

/-- The data phase of a narrow read in which the byte received is `b` (R89, R126; log 11). -/
def receiveGiven8 (b : Byte) (s : State) : State × Option Byte :=
  let x := xferGiven [s.params.txFill] ⟨b, 0, 0, 0⟩ (s.withPending none)
  (x.1, x.2.map Quad.b0)

/-- `DATA8R`: the data phase of a narrow read whose byte is `b` (R89, R126). -/
def execData8r (b : Byte) (s : State) : StepResult := dataPhase false true .byte (receiveGiven8 b) s

/-- `REG_STATUS`: the fields of the word, and the word they pack to (R90, R151, R152; log 12). -/
def execRegStatus (w : Word) (s : State) : StepResult :=
  deliverPure (.ok (.statusFormat (unpackStatus w) (packStatus (unpackStatus w)))) s

/-- `REG_CFG_CH`: the fields of the word, and the word they pack to (R91, R154, R155; log 12). -/
def execRegCfgCh (w : Word) (s : State) : StepResult :=
  deliverPure (.ok (.channelFormat (unpackChannel w) (packChannel (unpackChannel w)))) s

/-- `REG_FAULT`: the fields of the word, and the word they pack to (R92, R156, R157; log 12). -/
def execRegFault (w : Word) (s : State) : StepResult :=
  deliverPure (.ok (.faultFormat (unpackFault w) (packFault (unpackFault w)))) s

/-- `REG_CFG_DPM`: the fields of the word, and the word they pack to, reserved bits zero (R93, R158, R159; log 12). -/
def execRegCfgDpm (w : Word) (s : State) : StepResult :=
  deliverPure (.ok (.dpmFormat (unpackDpm w) (packDpm (unpackDpm w)))) s

end Sys2Proof.Machine
end

