-- ==== Sys2Proof/Machine/Dispatch.lean ====
section
/-! DEFINITION. One arm per row of spec/opcode_table.json. -/

namespace Sys2Proof.Machine

def exec (i : Instr) (s : State) : Host.Outcome State Fault Refusal :=
  match i with
  | .rd32 bank => Sys2Proof.Machine.execRd32 bank s
  | .wr32 bank w => Sys2Proof.Machine.execWr32 bank w s
  | .rd8 bank => Sys2Proof.Machine.execRd8 bank s
  | .wr8 bank b => Sys2Proof.Machine.execWr8 bank b s
  | .stat8 b => Sys2Proof.Machine.execStat8 b s
  | .data32w q => Sys2Proof.Machine.execData32w q s
  | .data32r q => Sys2Proof.Machine.execData32r q s
  | .data8w b => Sys2Proof.Machine.execData8w b s
  | .data8r b => Sys2Proof.Machine.execData8r b s
  | .regStatus w => Sys2Proof.Machine.execRegStatus w s
  | .regCfgCh w => Sys2Proof.Machine.execRegCfgCh w s
  | .regFault w => Sys2Proof.Machine.execRegFault w s
  | .regCfgDpm w => Sys2Proof.Machine.execRegCfgDpm w s
  | .writeCommand bank isWrite narrow => Sys2Proof.Machine.execWriteCommand bank isWrite narrow s
  | .writeData32 w => Sys2Proof.Machine.execWriteData32 w s
  | .readData32 => Sys2Proof.Machine.execReadData32 s
  | .writeData8 b => Sys2Proof.Machine.execWriteData8 b s
  | .readData8 => Sys2Proof.Machine.execReadData8 s
  | .getLastStatus => Sys2Proof.Machine.execGetLastStatus s
  | .writeReg32 bank w => Sys2Proof.Machine.execWriteReg32 bank w s
  | .readReg32 bank => Sys2Proof.Machine.execReadReg32 bank s
  | .writeReg8 bank b => Sys2Proof.Machine.execWriteReg8 bank b s
  | .readReg8 bank => Sys2Proof.Machine.execReadReg8 bank s
  | .packStatus x => Sys2Proof.Machine.execPackStatus x s
  | .unpackStatus w => Sys2Proof.Machine.execUnpackStatus w s
  | .packChannel r => Sys2Proof.Machine.execPackChannel r s
  | .unpackChannel w => Sys2Proof.Machine.execUnpackChannel w s
  | .packFault f => Sys2Proof.Machine.execPackFault f s
  | .unpackFault w => Sys2Proof.Machine.execUnpackFault w s
  | .packDpm d => Sys2Proof.Machine.execPackDpm d s
  | .unpackDpm w => Sys2Proof.Machine.execUnpackDpm w s
  | .encodeChannel cfg ctx board => Sys2Proof.Machine.execEncodeChannel cfg ctx board s
  | .decodeChannel w ctx => Sys2Proof.Machine.execDecodeChannel w ctx s
  | .chopKhz base sel => Sys2Proof.Machine.execChopKhz base sel s
  | .codeFromMa full ma => Sys2Proof.Machine.execCodeFromMa full ma s
  | .maFromCode full code => Sys2Proof.Machine.execMaFromCode full code s
  | .codeFromDuty pct base sel src => Sys2Proof.Machine.execCodeFromDuty pct base sel src s
  | .dutyFromCode code => Sys2Proof.Machine.execDutyFromCode code s
  | .dutyLimits base sel src => Sys2Proof.Machine.execDutyLimits base sel src s
  | .codeFromMs ms khz => Sys2Proof.Machine.execCodeFromMs ms khz s
  | .msFromCode code khz => Sys2Proof.Machine.execMsFromCode code khz s
  | .dutyCodeLinear pct => Sys2Proof.Machine.execDutyCodeLinear pct s
  | .quantizeChannel cfg ctx board => Sys2Proof.Machine.execQuantizeChannel cfg ctx board s
  | .dequantizeChannel r ctx => Sys2Proof.Machine.execDequantizeChannel r ctx s
  | .initializeDevice => Sys2Proof.Machine.execInitialize s
  | .deinitialize => Sys2Proof.Machine.execDeinitialize s
  | .configureChannel ch cfg => Sys2Proof.Machine.execConfigureChannel ch cfg s
  | .getChannelConfig ch => Sys2Proof.Machine.execGetChannelConfig ch s
  | .setChannelsOn mask => Sys2Proof.Machine.execSetChannelsOn mask s
  | .setChannelEnabled ch on => Sys2Proof.Machine.execSetChannelEnabled ch on s
  | .setPairMode pair mode => Sys2Proof.Machine.execSetPairMode pair mode s
  | .readStatus => Sys2Proof.Machine.execReadStatus s
  | .readFaults => Sys2Proof.Machine.execReadFaults s
  | .getDpmConfig => Sys2Proof.Machine.execGetDpmConfig s
  | .setDpmConfig d => Sys2Proof.Machine.execSetDpmConfig d s
  | .setBoardScale b => Sys2Proof.Machine.execSetBoardScale b s
  | .rawWriteRegister bank w => Sys2Proof.Machine.execRawWriteRegister bank w s
  | .rawReadRegister bank => Sys2Proof.Machine.execRawReadRegister bank s
  | .readFaultLine => Sys2Proof.Machine.execReadFaultLine s
  | .validateChannel cfg board => Sys2Proof.Machine.execValidateChannel cfg board s
  | .ensureCache => Sys2Proof.Machine.execEnsureCache s

end Sys2Proof.Machine
end

