-- ==== Sys2Proof/Machine/Step.lean ====
section
/-! DEFINITION. One step: the next request of the host is taken, decoded and run to its return (R5, R60, R62). The block
has no program counter (R22): the queue of requests stands in its place (log 1). -/

namespace Sys2Proof.Machine

/-- One step. With nothing requested the block idles (log 9); a frame that is no encoding of an operation is refused by
name (I1). -/
def step (s : State) : Host.Outcome State Fault Refusal :=
  match s.requests with
  | [] => .next s
  | f :: rest =>
    match decode f with
    | .ok i => exec i (s.withRequests rest)
    | .error e => .refused (.undecodable e)

/-- The instruction whose table bits are `w` (spec/opcode_table.json's numbering, the bits above `nbits` zero) placed as
the host's next request, so that the very next step runs it; requests already there come after it (log 1). -/
def State.withFetchWord (s : State) (nbits w : Nat) : State :=
  s.withRequests (tableFrame nbits w :: s.requests)

end Sys2Proof.Machine
end

