-- ==== Sys2Proof/Safety.lean ====
section
/-! DEFINITION. What counts as a safe run, in the terms the statements use: the discipline of the wire (R84, R85, R98,
R135), the lines and counters against the trace (R12, R25), and the invariant of a step. -/

namespace Sys2Proof.Machine

/-! ### The wire, read from the trace -/

/-- Where the wire stands between two events (R98). -/
inductive WirePhase where
  /-- command select is deasserted; the NARROW bit of an accepted command whose data phase has not come, if any -/
  | idle (owed : Option Bool)
  /-- command select is asserted and the command byte has not been exchanged -/
  | selected
  /-- the command byte has been exchanged and command select is still asserted; what will be owed -/
  | answered (owed : Option Bool)
deriving DecidableEq, Repr

/-- What the wire allows. With command select asserted: exactly one exchange of one byte, which is a command byte of
R96, and then deasserting, with no event between (R135). With it deasserted: the data phase of the accepted command
alone, of the length its NARROW bit fixes (R84). An exchange receives as many bytes as it sends (R12). -/
def wireNext : WirePhase → Event → Option WirePhase
  | .idle _, .setLine .cmdSel .asserted => some .selected
  | .idle owed, .setLine .enable _ => some (.idle owed)
  | .idle owed, .readFault _ => some (.idle owed)
  | .idle owed, .delay _ => some (.idle owed)
  | .idle (some narrow), .xfer tx rx =>
    if tx.length = (if narrow then 1 else 4) ∧ (∀ r ∈ rx, r.length = tx.length) then some (.idle none) else none
  | .selected, .xfer [b] rx =>
    match classifyCommand b with
    | .access _ _ narrow =>
      match rx with
      | none => some (.answered none)
      | some r => if r.length = 1 then some (.answered (some narrow)) else none
    | _ => none
  | .answered owed, .setLine .cmdSel .deasserted => some (.idle owed)
  | _, _ => none

/-- The wire after a trace, `none` where the discipline was broken. -/
def wireAfter (t : List Event) : Option WirePhase := t.foldlM wireNext (.idle none)

/-- The exchanges of a trace: the transport call counter of the source's tests (R135). -/
def xfersOf (t : List Event) : Nat :=
  t.countP fun e =>
    match e with
    | .xfer _ _ => true
    | _ => false

/-- The reads of the fault line in a trace. -/
def readsOf (t : List Event) : Nat :=
  t.countP fun e =>
    match e with
    | .readFault _ => true
    | _ => false

/-- The last level driven on a line in a trace; the lines rest at `deasserted` (R25, R300). -/
def levelAfter (l : OutLine) (t : List Event) : Level :=
  t.foldl
    (fun v e =>
      match e with
      | .setLine l' v' => if l' = l then v' else v
      | _ => v)
    .deasserted

/-- One event seen by a reader of the status byte: the level of command select, and the byte retained so far. The
exchange made while command select is asserted is the command phase (R98), and its answer is the status byte (R94). -/
def retainNext (p : Level × Option Byte) (e : Event) : Level × Option Byte :=
  match e with
  | .setLine .cmdSel v => (v, p.2)
  | .xfer _ (some (b :: _)) => (p.1, if p.1 = .asserted then some b else p.2)
  | _ => p

/-- The level of command select after a trace, and the byte received in its last answered command phase (R23). -/
def retainedAfter (t : List Event) : Level × Option Byte := t.foldl retainNext (.deasserted, none)

/-- A board scale without a negative value: what `setBoardScale` lets in (R234). -/
structure BoardNonNegative (b : BoardScale) : Prop where
  fullScale : 0 ≤ b.fullScaleMa
  maxCurrent : ∀ m ∈ b.maxCurrentMa, 0 ≤ m
  maxDuty : ∀ m ∈ b.maxDutyPct, 0 ≤ m

/-! ### The invariant -/

/-- What every step keeps. -/
structure Invariant (s : State) : Prop where
  /-- R135 (1): between operations command select is deasserted -/
  selectRests : s.cmdSel = .deasserted
  /-- R24, R86: an accepted command names a register -/
  pendingBank : ∀ p, s.pending = some p → bankValid p.bank = true
  /-- R220, R301: the manager is Active only with the enable line asserted -/
  enabledWhenActive : s.dsmState = .active → s.enable = .asserted
  /-- R29, R220, R301: the cache is valid only in Active, since nothing loads it before `initialize` or after
  `deinitialize` -/
  cacheValidOnlyWhenActive : s.cacheValid = true → s.dsmState = .active
  /-- R15, R234: the board scale holds no negative value -/
  boardNonNegative : BoardNonNegative s.board
  /-- R12: every exchange is in the trace -/
  xfersTraced : s.env.xferCount = xfersOf s.trace
  /-- R12: every read of the fault line is in the trace -/
  readsTraced : s.env.readCount = readsOf s.trace
  /-- R25: the state holds the last level driven on each line -/
  enableTraced : s.enable = levelAfter .enable s.trace
  /-- R25 -/
  selectTraced : s.cmdSel = levelAfter .cmdSel s.trace
  /-- R23: the retained byte is the one received in the last answered command phase, and nothing else writes it -/
  statusTraced : retainedAfter s.trace = (s.cmdSel, s.lastStatus)
  /-- R135 (2), (3), R84, R98: the wire discipline, and a pending command is still owed its data phase -/
  wireKept : ∃ owed, wireAfter s.trace = some (.idle owed) ∧ ∀ p, s.pending = some p → owed = some p.narrow

/-! ### Words of the statements -/

/-- The three events of a command phase (R121). -/
def commandEvents (bank : Bank) (isWrite narrow : Bool) (a : Option Quad) : List Event :=
  [.setLine .cmdSel .asserted, .xfer [commandByte bank isWrite narrow] (received a 1),
   .setLine .cmdSel .deasserted]

/-- The state after a command phase that the environment answered with `q` (R121). -/
def afterCommand (bank : Bank) (isWrite narrow : Bool) (q : Quad) (s : State) : State :=
  { s with
    lastStatus := some q.b0
    pending := some ⟨bank, isWrite, narrow⟩
    cmdSel := .deasserted
    env := afterXfers s.env 1
    trace := s.trace ++ commandEvents bank isWrite narrow (some q) }

/-- The state after a data phase that sent `tx` and was answered with `a` (R123 to R126). -/
def afterData (tx : List Byte) (a : Option Quad) (s : State) : State :=
  { s with
    pending := none
    env := afterXfers s.env 1
    trace := s.trace ++ [.xfer tx (received a tx.length)] }

/-- The state after a register transaction of two phases, the command phase answered with `q`, the data phase sending
`tx` and answered with `a` (R131 to R134). -/
def afterTransaction (bank : Bank) (isWrite narrow : Bool) (q : Quad) (tx : List Byte) (a : Option Quad) (s : State) :
    State :=
  { s with
    lastStatus := some q.b0
    pending := none
    cmdSel := .deasserted
    env := afterXfers s.env 2
    trace := s.trace ++ commandEvents bank isWrite narrow (some q) ++ [.xfer tx (received a tx.length)] }

/-- The environment answers the `k`-th exchange from here with a status byte that is no communication error (R122). -/
def statusOkAt (s : State) (k : Nat) (q : Quad) : Prop :=
  answerAt s.env k = some q ∧ q.b0 ≠ s.params.commErrCode

/-- `t` is the state after a register transaction that failed: the command exchange failed, its status byte was the
communication-error code, or the data exchange, which sends `tx`, failed (R130 to R134, R271, R272). -/
def failedTransfer (bank : Bank) (isWrite narrow : Bool) (tx : List Byte) (s t : State) : Prop :=
  (answerAt s.env 0 = none ∧ t = { s with
    pending := none
    cmdSel := .deasserted
    env := afterXfers s.env 1
    trace := s.trace ++ commandEvents bank isWrite narrow none }) ∨
  (∃ q, answerAt s.env 0 = some q ∧ q.b0 = s.params.commErrCode ∧
    t = { afterCommand bank isWrite narrow q s with pending := none }) ∨
  (∃ q, statusOkAt s 0 q ∧ answerAt s.env 1 = none ∧ t = afterTransaction bank isWrite narrow q tx none s)

/-- `t` is the state after an attempt of `initialize` that failed (R221): in its read of STATUS, in its write of the word it
read with the channels off and the device enabled, or in its re-read; each transaction follows the one before it at once. -/
def attemptFails (s t : State) : Prop :=
  failedTransfer 0 false false (fill32 s.params) s t ∨
  ∃ q d s1, statusOkAt s 0 q ∧ answerAt s.env 1 = some d ∧
    s1 = afterTransaction 0 false false q (fill32 s.params) (some d) s ∧
    (failedTransfer 0 true false (quadBytes (data32wBytes (initWord (data32rWord d)))) s1 t ∨
      ∃ q' a s2, statusOkAt s1 0 q' ∧ answerAt s1.env 1 = some a ∧
        s2 = afterTransaction 0 true false q' (quadBytes (data32wBytes (initWord (data32rWord d)))) (some a) s1 ∧
        failedTransfer 0 false false (fill32 s.params) s2 t)

/-- `t` is the state after the three transactions of an attempt of `initialize` that completed, and `w` the word it re-read
(R221). -/
def attemptCompletes (s : State) (w : Word) (t : State) : Prop :=
  ∃ q d s1 q' a s2 q'' d',
    statusOkAt s 0 q ∧ answerAt s.env 1 = some d ∧
    s1 = afterTransaction 0 false false q (fill32 s.params) (some d) s ∧
    statusOkAt s1 0 q' ∧ answerAt s1.env 1 = some a ∧
    s2 = afterTransaction 0 true false q' (quadBytes (data32wBytes (initWord (data32rWord d)))) (some a) s1 ∧
    statusOkAt s2 0 q'' ∧ answerAt s2.env 1 = some d' ∧
    t = afterTransaction 0 false false q'' (fill32 s.params) (some d') s2 ∧ w = data32rWord d'

/-- The state after the forced re-read of R238, answered with the status `q` and the data `d`. -/
def afterReread (q d : Quad) (s : State) : State :=
  { afterTransaction 0 false false q (fill32 s.params) (some d) s with
    cache := unpackStatus (data32rWord d)
    cacheValid := true }

end Sys2Proof.Machine
end

