-- ==== Sys2Proof/Certificates/Slice0/Obligations.lean ====
section
/-! DEFINITION. The statements for the provers. Most rules of this spec carry a decision of the spec's own (D<n>,
92_eei_decisions.md); a statement that rests on one says so and has basis 'derived'. Each statement that gives a next
state gives ALL of it, so what it does not mention is unchanged. -/

open Sys2Proof Sys2Proof.Machine

/-! ### Encodings -/

/-- Every operation is read back from the frame it is written as. The frame of a command, a data phase or a register
word is the spec's (R87 to R97); the operand bytes of a host operation are the model's (log 3). -/
def Obligations.DecodeInvertsEncode : Prop :=
  ∀ i : Instr, i.wellFormed = true → decode (encode i) = .ok i

/-- Whatever the decoder reads has operands of the types of R15 (log 3, log 30). -/
def Obligations.DecodeAnswersWellFormed : Prop :=
  ∀ (f : Frame) (i : Instr), decode f = .ok i → i.wellFormed = true

/-- Words written out from 30_encoding.md decode to the operations they stand for, and a command byte with a reserved
bit set to none (D4, D5: log 16; the frames are the model's, log 3). -/
def Obligations.SpecWordsDecode : Prop :=
  decode ⟨.cmd8, [0b00010010#8]⟩ = .ok (.rd32 9) ∧
  decode ⟨.cmd8, [0b00010011#8]⟩ = .ok (.rd8 9) ∧
  decode ⟨.cmd8, [0b10000001#8, 0x05#8]⟩ = .ok (.wr8 0 0x05) ∧
  decode ⟨.cmd8, [0b10000010#8, 0x00#8, 0x06#8, 0x50#8, 0x28#8]⟩ = .ok (.wr32 1 0x28500600) ∧
  decode ⟨.stat8, [0b00000100#8]⟩ = .ok (.stat8 0x04) ∧
  decode ⟨.data32r, [0x28#8, 0x50#8, 0x06#8, 0x00#8]⟩ = .ok (.data32r ⟨0x28, 0x50, 0x06, 0x00⟩) ∧
  decode ⟨.hostOp, [0b01000000#8]⟩ = .ok .initializeDevice ∧
  decode ⟨.hostOp, [0b00110000#8, 1#8, 1#8]⟩ = .ok (.chopKhz .base80k 1) ∧
  decode ⟨.cmd8, [0b00100000#8]⟩ = .error .invalidReservedBits ∧
  decode ⟨.cmd8, [0b01000010#8]⟩ = .error .invalidReservedBits

/-- The fields of a command byte (R81, R95), read back by the classification of R97; and of the 256 values of a byte 44
are command bytes, 192 have a reserved bit set and 20 name no register. The polarities of RW and NARROW are the spec's
decisions D4 and D5 (log 16), the treatment of banks 11 to 15 is D6 (log 15). -/
def Obligations.CommandByteLayout : Prop :=
  (∀ (bank : Bank) (isWrite narrow : Bool), bank.toNat ≤ 10 →
    (commandByte bank isWrite narrow).getLsbD 7 = isWrite ∧
    (commandByte bank isWrite narrow).extractLsb' 5 2 = 0#2 ∧
    (commandByte bank isWrite narrow).extractLsb' 1 4 = bank ∧
    (commandByte bank isWrite narrow).getLsbD 0 = narrow ∧
    classifyCommand (commandByte bank isWrite narrow) = .access bank isWrite narrow) ∧
  (List.range 256).countP (fun n => decide (∃ b ∈ List.range 11, ∃ wr n', classifyCommand (BitVec.ofNat 8 n) =
      .access (BitVec.ofNat 4 b) wr n')) = 44 ∧
  (List.range 256).countP (fun n => decide (classifyCommand (BitVec.ofNat 8 n) = .invalidReservedBits)) = 192 ∧
  (List.range 256).countP (fun n => decide (∃ b ∈ List.range 5, ∃ wr n', classifyCommand (BitVec.ofNat 8 n) =
      .invalidBank (BitVec.ofNat 4 (11 + b)) wr n')) = 20

/-- R52, R87: a full write sends the register least significant byte first. -/
def Obligations.FullWriteSendsLeastSignificantFirst : Prop :=
  (∀ (s : State) (w : Word), pendingMatches true false s = true →
    ∃ t, exec (.writeData32 w) s = .next t ∧
      t.trace = s.trace ++
        [.xfer [w.extractLsb' 0 8, w.extractLsb' 8 8, w.extractLsb' 16 8, w.extractLsb' 24 8]
          ((answerAt s.env 0).map quadBytes)]) ∧
  quadBytes (data32wBytes 0x28500600) = [0x00, 0x06, 0x50, 0x28]

/-- R53, R88: the four bytes of a full read form the word most significant byte first. -/
def Obligations.FullReadIsMostSignificantFirst : Prop :=
  (∀ (s : State) (r0 r1 r2 r3 : Byte), pendingMatches false false s = true →
    answerAt s.env 0 = some ⟨r0, r1, r2, r3⟩ →
    ∃ t, exec .readData32 s = .next t ∧ t.result = some (.ok (.word (r0 ++ r1 ++ r2 ++ r3)))) ∧
  data32rWord ⟨0x28, 0x50, 0x06, 0x00⟩ = 0x28500600

/-- The layout of the fault word: each mask is one byte of the register, bit N for channel N (R92, R156), and its two
round trips (R157, the spec's own derivation). -/
def Obligations.FaultWordLayout : Prop :=
  (∀ (f : FaultWord) (n : Nat), n < 8 →
    (packFault f).getLsbD (24 + n) = f.overcurrent.getLsbD n ∧
    (packFault f).getLsbD (16 + n) = f.hitNotReached.getLsbD n ∧
    (packFault f).getLsbD (8 + n) = f.openLoad.getLsbD n ∧
    (packFault f).getLsbD n = f.plungerMovement.getLsbD n) ∧
  (∀ f, unpackFault (packFault f) = f) ∧ (∀ w, packFault (unpackFault w) = w)

/-- The layout of the status word (R90, R151, R152) and its two round trips (R153). Bit places and codes inside the
bytes are the spec's decisions D15 to D17 (log 17). -/
def Obligations.StatusWordLayout : Prop :=
  (∀ x : StatusWord,
    (packStatus x).extractLsb' 24 8 = x.channelsOn ∧
    (packStatus x).extractLsb' 17 7 = x.faultMask ∧
    (packStatus x).getLsbD 16 = decide (x.clockBase = .base80k) ∧
    (packStatus x).extractLsb' 14 2 = pairModeBits x.pairMode.p3 ∧
    (packStatus x).extractLsb' 12 2 = pairModeBits x.pairMode.p2 ∧
    (packStatus x).extractLsb' 10 2 = pairModeBits x.pairMode.p1 ∧
    (packStatus x).extractLsb' 8 2 = pairModeBits x.pairMode.p0 ∧
    (packStatus x).extractLsb' 1 7 = x.faultFlags ∧
    (packStatus x).getLsbD 0 = x.globalEnable) ∧
  [PairMode.independent, .parallel, .hBridge, .reserved3].map pairModeBits = [0, 1, 2, 3] ∧
  (∀ x, unpackStatus (packStatus x) = x) ∧ (∀ w, packStatus (unpackStatus w) = w)

/-- The layout of a channel word (R91, R154, R155) and its two round trips (R160). The places inside byte 0 are the
spec's decision D18, the order of the divisors D21 (log 18). -/
def Obligations.ChannelWordLayout : Prop :=
  (∀ r : ChannelRaw,
    (packChannel r).getLsbD 31 = r.halfScale ∧
    (packChannel r).extractLsb' 24 7 = r.holdCode ∧
    (packChannel r).getLsbD 23 = decide (r.trigger = .externalPin) ∧
    (packChannel r).extractLsb' 16 7 = r.hitCode ∧
    (packChannel r).extractLsb' 8 8 = r.hitTimeCode ∧
    (packChannel r).getLsbD 7 = decide (r.driveMode = .voltage) ∧
    (packChannel r).getLsbD 6 = decide (r.sideMode = .highSide) ∧
    (packChannel r).extractLsb' 4 2 = r.chopSel ∧
    (packChannel r).getLsbD 3 = r.slewRateControl ∧
    (packChannel r).getLsbD 2 = r.openLoadEn ∧
    (packChannel r).getLsbD 1 = r.plungerDetectEn ∧
    (packChannel r).getLsbD 0 = r.hitCheckEn) ∧
  (∀ r, unpackChannel (packChannel r) = r) ∧ (∀ w, packChannel (unpackChannel w) = w)

/-- The layout of the plunger-detection word (R93, R158, R159), the spec's decision D19 (log 19): reserved bits are
packed as zero and ignored on unpacking. -/
def Obligations.DpmWordLayout : Prop :=
  (∀ d : DpmConfig,
    (packDpm d).extractLsb' 8 7 = d.startCurrentCode ∧
    (packDpm d).extractLsb' 4 4 = d.debounceCode ∧
    (packDpm d).extractLsb' 0 4 = d.dipThresholdCode ∧
    (packDpm d).extractLsb' 15 17 = 0#17) ∧
  (∀ d, unpackDpm (packDpm d) = d) ∧ (∀ w, packDpm (unpackDpm w) = w &&& 0x00007FFF#32)

/-! ### Steps, reset, invariants -/

/-- A step takes the request at the head of the queue, decodes it and runs it; with none it idles; a frame that is no
encoding is refused by name (the queue is the model's: log 1, log 9). -/
def Obligations.StepRunsDecodedRequest : Prop :=
  (∀ (s : State) (f : Frame) (rest : List Frame) (i : Instr), s.requests = f :: rest → decode f = .ok i →
    step s = exec i { s with requests := rest }) ∧
  (∀ (s : State) (f : Frame) (rest : List Frame) (e : DecodeError), s.requests = f :: rest → decode f = .error e →
    step s = .refused (.undecodable e)) ∧
  (∀ s : State, s.requests = [] → step s = .next s)

/-- The table word placed by `withFetchWord` is the next operation run, on the state it was placed in (log 1). -/
def Obligations.FetchWordRunsNext : Prop :=
  ∀ (s : State) (nbits w : Nat) (i : Instr), decodeTableWord nbits w = some i →
    step (s.withFetchWord nbits w) = exec i s

/-- The reset values of R40 and R300, which are the spec's decision D43; the cache is not mentioned, since it has no
meaning there (log 6). -/
def Obligations.ResetLeavesTableOfR40 : Prop :=
  State.reset.dsmState = .uninitialized ∧ State.reset.lastStatus = none ∧ State.reset.pending = none ∧
  State.reset.cmdSel = .deasserted ∧ State.reset.enable = .deasserted ∧ State.reset.cacheValid = false ∧
  State.reset.board = ⟨0, none, none⟩ ∧ State.reset.trace = []

/-- The invariant holds right after reset. -/
def Obligations.InvariantHoldsAtReset : Prop := Invariant State.reset

/-- Every step keeps the invariant: the wire discipline of R135 (one command byte of R96 between asserting and
deasserting command select, every data phase after its command with the length its NARROW bit fixes), the lines and
the counters as the trace says, the enable line asserted while Active, a valid cache only while Active, a pending command
of a register, a board without negative values. The retained status byte is the one received in the
last answered command phase of the trace, so nothing but a command phase writes it (R23, decision D12: log 23). R135 is
the spec's own derivation. -/
def Obligations.StepKeepsInvariant : Prop :=
  ∀ s t : State, Invariant s → step s = .next t → Invariant t

/-- No step changes the parameters of R9, and a step only appends to the trace (R12, R21, D53: log 5, log 7). -/
def Obligations.StepAppendsToTrace : Prop :=
  ∀ s t : State, step s = .next t → t.params = s.params ∧ ∃ es, t.trace = s.trace ++ es

/-- `HardwareFault` and `Timeout` are never returned, unless the parameter `ERR_NOT_ACTIVE` is one of them (R274, R275,
D48: log 29). -/
def Obligations.ReservedKindsNeverReturned : Prop :=
  ∀ (i : Instr) (s t : State), exec i s = .next t →
    s.params.errNotActive ≠ .hardwareFault → s.params.errNotActive ≠ .timeout →
    t.result ≠ some (.err .hardwareFault) ∧ t.result ≠ some (.err .timeout)

/-- R28: the sequencer's state is written by `initialize` (Active on success, Uninitialized on failure) and by
`deinitialize` (Uninitialized), and by nothing else. -/
def Obligations.SequencerWrittenByTwoOperations : Prop :=
  ∀ (i : Instr) (s t : State), exec i s = .next t →
    (i ≠ .initializeDevice → i ≠ .deinitialize → t.dsmState = s.dsmState) ∧
    (i = .initializeDevice →
      (t.result = some (.ok .unit) ∧ t.dsmState = .active) ∨
      (t.result = some (.err .communicationError) ∧ t.dsmState = .uninitialized)) ∧
    (i = .deinitialize → t.dsmState = .uninitialized)

/-- The enable line is written only by `initialize` and `deinitialize` (R25), the board scale only by `setBoardScale`
(R30); every operation that completes hands the host a result (R14, in the field `result` of the model: log 8); and no
operation touches the queue of requests (the model's own: log 1). R25 and R30 carry the spec's decisions D10, D14 and
D50. -/
def Obligations.EnableAndBoardWrittenByTheirOperations : Prop :=
  ∀ (i : Instr) (s t : State), exec i s = .next t →
    (i ≠ .initializeDevice → i ≠ .deinitialize → t.enable = s.enable) ∧
    ((∀ b, i ≠ .setBoardScale b) → t.board = s.board) ∧
    t.requests = s.requests ∧ (∃ r, t.result = some r)

/-- The operations of the engine and of the wire leave the manager's state alone: cache, board, sequencer and enable
line; they never set `cache_valid` (R20, R243), and only a write of bank 0 that the host issues clears it, whatever the
transport answers (R243, R279; decision D40: log 28; the rows WR32 and WR8 are read as issued by the host: log 13). -/
def Obligations.EngineLeavesManagerState : Prop :=
  ∀ (bank : Bank) (w : Word) (b : Byte) (q : Quad) (wr n : Bool) (i : Instr) (s t : State),
    i ∈ [.rd32 bank, .wr32 bank w, .rd8 bank, .wr8 bank b, .stat8 b, .data32w q, .data32r q, .data8w b, .data8r b,
      .writeCommand bank wr n, .writeData32 w, .readData32, .writeData8 b, .readData8, .getLastStatus,
      .writeReg32 bank w, .readReg32 bank, .writeReg8 bank b, .readReg8 bank] →
    exec i s = .next t →
    t.cache = s.cache ∧ t.board = s.board ∧ t.dsmState = s.dsmState ∧ t.enable = s.enable ∧
      (i ∈ [.wr32 0 w, .wr8 0 b, .writeCommand 0 true n, .writeReg32 0 w, .writeReg8 0 b] → t.cacheValid = false) ∧
      (i ∉ [.wr32 0 w, .wr8 0 b, .writeCommand 0 true n, .writeReg32 0 w, .writeReg8 0 b] →
        t.cacheValid = s.cacheValid)

/-- Only the eight data-phase operations can be refused, by `ProtocolViolation`, and exactly when the pending command is
not theirs; every other operation completes in every state. For the four operations `writeData32`, `readData32`,
`writeData8` and `readData8` this is R128 (the spec's decision D11: log 22); that the four rows DATA32W, DATA32R, DATA8W
and DATA8R are refused in the same way is the model's choice (log 11), and so is that the other rows which are no host
operation complete when they are run alone (log 10, log 12, log 13, log 14). -/
def Obligations.OnlyUnmatchedDataPhasesRefused : Prop :=
  ∀ (i : Instr) (s : State),
    (∀ r, exec i s = .refused r ↔ r = .protocolViolation ∧
      ((((∃ w, i = .writeData32 w) ∨ (∃ q, i = .data32w q)) ∧ pendingMatches true false s = false) ∨
       ((i = .readData32 ∨ (∃ q, i = .data32r q)) ∧ pendingMatches false false s = false) ∨
       (((∃ b, i = .writeData8 b) ∨ (∃ b, i = .data8w b)) ∧ pendingMatches true true s = false) ∨
       ((i = .readData8 ∨ (∃ b, i = .data8r b)) ∧ pendingMatches false true s = false))) ∧
    ((∀ r, exec i s ≠ .refused r) → ∃ t, exec i s = .next t)

/-! ### Protocol Engine -/

/-- `writeCommand` (R121, R122, R243; decisions D4 to D7, D10 to D12): three events; the status byte is retained, also
when it is the error code; a failed exchange clears the pending command and keeps the retained byte; issued by the
host as a write of bank 0 it invalidates the cache. -/
def Obligations.WriteCommandCompletes : Prop :=
  ∀ (s : State) (bank : Bank) (wr n : Bool), bank.toNat ≤ 10 →
    (∀ q, answerAt s.env 0 = some q →
      exec (.writeCommand bank wr n) s = .next { s with
        lastStatus := some q.b0
        pending := some ⟨bank, wr, n⟩
        cmdSel := .deasserted
        cacheValid := s.cacheValid && !(wr && bank == 0)
        env := afterXfers s.env 1
        trace := s.trace ++ [.setLine .cmdSel .asserted, .xfer [commandByte bank wr n] (some [q.b0]),
          .setLine .cmdSel .deasserted]
        result := some (.ok (.commStatus ⟨q.b0, q.b0 == s.params.commErrCode⟩)) }) ∧
    (answerAt s.env 0 = none →
      exec (.writeCommand bank wr n) s = .next { s with
        pending := none
        cmdSel := .deasserted
        cacheValid := s.cacheValid && !(wr && bank == 0)
        env := afterXfers s.env 1
        trace := s.trace ++ [.setLine .cmdSel .asserted, .xfer [commandByte bank wr n] none,
          .setLine .cmdSel .deasserted]
        result := some .transportError })

/-- The four data phases (R123 to R126; decisions D8, D9, D11): the pending command is cleared whatever the exchange
answers, a write discards the bytes received, a read sends the fill byte. -/
def Obligations.DataPhasesComplete : Prop :=
  ∀ (s : State) (w : Word) (b : Byte),
    (pendingMatches true false s = true →
      (∀ a, answerAt s.env 0 = some a → exec (.writeData32 w) s =
        .next ((afterData (quadBytes (data32wBytes w)) (some a) s).withResult (.ok .unit))) ∧
      (answerAt s.env 0 = none → exec (.writeData32 w) s =
        .next ((afterData (quadBytes (data32wBytes w)) none s).withResult .transportError))) ∧
    (pendingMatches false false s = true →
      (∀ a, answerAt s.env 0 = some a → exec .readData32 s =
        .next ((afterData (List.replicate 4 s.params.txFill) (some a) s).withResult (.ok (.word (data32rWord a))))) ∧
      (answerAt s.env 0 = none → exec .readData32 s =
        .next ((afterData (List.replicate 4 s.params.txFill) none s).withResult .transportError))) ∧
    (pendingMatches true true s = true →
      (∀ a, answerAt s.env 0 = some a → exec (.writeData8 b) s =
        .next ((afterData [b] (some a) s).withResult (.ok .unit))) ∧
      (answerAt s.env 0 = none → exec (.writeData8 b) s =
        .next ((afterData [b] none s).withResult .transportError))) ∧
    (pendingMatches false true s = true →
      (∀ a, answerAt s.env 0 = some a → exec .readData8 s =
        .next ((afterData [s.params.txFill] (some a) s).withResult (.ok (.byte a.b0)))) ∧
      (answerAt s.env 0 = none → exec .readData8 s =
        .next ((afterData [s.params.txFill] none s).withResult .transportError)))

/-- The data phases given by their wire bytes (R87 to R89): a write sends exactly those bytes, a read receives exactly
those bytes. That such a row is an operation, and that a read row names the answer, is the model's (log 11). -/
def Obligations.WireDataRowsComplete : Prop :=
  ∀ (s : State) (q : Quad) (b : Byte),
    (∀ a, pendingMatches true false s = true → answerAt s.env 0 = some a → exec (.data32w q) s =
      .next ((afterData (quadBytes q) (some a) s).withResult (.ok .unit))) ∧
    (∀ a, pendingMatches true true s = true → answerAt s.env 0 = some a → exec (.data8w b) s =
      .next ((afterData [b] (some a) s).withResult (.ok .unit))) ∧
    (pendingMatches false false s = true → exec (.data32r q) s = .next { s with
      pending := none
      env := { s.env with xferCount := s.env.xferCount + 1 }
      trace := s.trace ++ [.xfer (List.replicate 4 s.params.txFill) (some (quadBytes q))]
      result := some (.ok (.word (q.b0 ++ q.b1 ++ q.b2 ++ q.b3))) }) ∧
    (pendingMatches false true s = true → exec (.data8r b) s = .next { s with
      pending := none
      env := { s.env with xferCount := s.env.xferCount + 1 }
      trace := s.trace ++ [.xfer [s.params.txFill] (some [b])]
      result := some (.ok (.byte b)) })

/-- A status byte is compared whole with `COMM_ERR_CODE`, and nothing else is done with it: the row makes no exchange, so
it retains nothing (R23, R94, R122; decision D7; the row STAT8 as an operation is the model's, log 10). `getLastStatus`
answers the retained byte with no call and no other change (R127; decision D12: log 23). -/
def Obligations.StatusByteComparedAndLastStatusRead : Prop :=
  ∀ (s : State) (b : Byte),
    exec (.stat8 b) s = .next { s with
      result := some (.ok (.commStatus ⟨b, b == s.params.commErrCode⟩)) } ∧
    exec .getLastStatus s = .next { s with result := some (.ok (.lastStatus s.lastStatus)) }

/-- The full write and the full read (R131, R132, WR32 and RD32 of R96). A write: command byte, then the word least
significant byte first; on bank 0 it invalidates the cache, for `WriteReg32` issued by the host by R243 (D40: log 28), for
the row WR32 by the model's reading that the host issues it (R100, D46: log 13). A read: command byte, then four fill
bytes; the result is the word received, most significant byte first. Decisions D4, D5, D8, D13. -/
def Obligations.FullTransactionsComplete : Prop :=
  ∀ (s : State) (bank : Bank) (w : Word) (q a : Quad), bank.toNat ≤ 10 → statusOkAt s 0 q →
    answerAt s.env 1 = some a →
    (∃ t : State, t = { afterTransaction bank true false q (quadBytes (data32wBytes w)) (some a) s with
        cacheValid := s.cacheValid && bank != 0
        result := some (.ok .unit) } ∧
      exec (.writeReg32 bank w) s = .next t ∧ exec (.wr32 bank w) s = .next t) ∧
    (∃ t : State, t = { afterTransaction bank false false q (List.replicate 4 s.params.txFill) (some a) s with
        result := some (.ok (.word (data32rWord a))) } ∧
      exec (.readReg32 bank) s = .next t ∧ exec (.rd32 bank) s = .next t)

/-- The narrow write and the narrow read (R133, R134, WR8 and RD8 of R96): one data byte, byte 3 of the register.
A write of bank 0 invalidates the cache, for `WriteReg8` issued by the host by R243 (D40: log 28), for the row WR8 by the
model's reading that the host issues it (R100, D46: log 13). Decisions D4, D5, D8, D13. -/
def Obligations.NarrowTransactionsComplete : Prop :=
  ∀ (s : State) (bank : Bank) (b : Byte) (q a : Quad), bank.toNat ≤ 10 → statusOkAt s 0 q →
    answerAt s.env 1 = some a →
    (∃ t : State, t = { afterTransaction bank true true q [b] (some a) s with
        cacheValid := s.cacheValid && bank != 0
        result := some (.ok .unit) } ∧
      exec (.writeReg8 bank b) s = .next t ∧ exec (.wr8 bank b) s = .next t) ∧
    (∃ t : State, t = { afterTransaction bank false true q [s.params.txFill] (some a) s with
        result := some (.ok (.byte a.b0)) } ∧
      exec (.readReg8 bank) s = .next t ∧ exec (.rd8 bank) s = .next t)

/-- R272: an exchange that fails makes the engine operation answer `TransportError` and the register transaction
`CommunicationError`, and the whole next state is what the exchanges made of it: in particular `cache_valid` is
changed only by a write of bank 0 that the host issues (R279, R243; decision D40: log 28), and that the rows WR32 and
WR8 are such writes is the model's reading (R100, D46: log 13). A failure in the command phase leaves the retained
status byte, one in the data phase leaves the byte of its command phase, so that comparing the retained byte with the
code tells it from an error status. That no command is pending after the failure is decision D11 (R24, R121, R123,
R125: log 22, log 23), and that the rows DATA32W and DATA8W fail as `writeData32` and `writeData8` do is the model's
choice (log 11). -/
def Obligations.TransportFailureIsReported : Prop :=
  ∀ (s : State) (bank : Bank) (w : Word) (b : Byte) (x : Quad) (wr n : Bool) (tx : List Byte) (i : Instr),
    bank.toNat ≤ 10 →
    (answerAt s.env 0 = none → exec (.writeCommand bank wr n) s = .next { s with
      pending := none
      cmdSel := .deasserted
      cacheValid := s.cacheValid && !(wr && bank == 0)
      env := afterXfers s.env 1
      trace := s.trace ++ commandEvents bank wr n none
      result := some .transportError }) ∧
    ((i, wr, n, tx) ∈ [(.writeData32 w, true, false, quadBytes (data32wBytes w)),
        (.readData32, false, false, fill32 s.params), (.writeData8 b, true, true, [b]),
        (.readData8, false, true, [s.params.txFill]), (.data32w x, true, false, quadBytes x),
        (.data8w b, true, true, [b])] →
      pendingMatches wr n s = true → answerAt s.env 0 = none →
      exec i s = .next ((afterData tx none s).withResult .transportError)) ∧
    ((i, wr, n, tx) ∈ [(.rd32 bank, false, false, fill32 s.params), (.readReg32 bank, false, false, fill32 s.params),
        (.wr32 bank w, true, false, quadBytes (data32wBytes w)),
        (.writeReg32 bank w, true, false, quadBytes (data32wBytes w)), (.rd8 bank, false, true, [s.params.txFill]),
        (.readReg8 bank, false, true, [s.params.txFill]), (.wr8 bank b, true, true, [b]),
        (.writeReg8 bank b, true, true, [b])] →
      (∀ t, failedTransfer bank wr n tx s t → exec i s = .next { t with
        cacheValid := s.cacheValid && !(wr && bank == 0)
        result := some (.err .communicationError) }) ∧
      (answerAt s.env 0 = none → ∃ t, exec i s = .next t ∧ t.result = some (.err .communicationError) ∧
        t.lastStatus = s.lastStatus ∧ t.pending = none ∧ t.env = afterXfers s.env 1) ∧
      (∀ q, statusOkAt s 0 q → answerAt s.env 1 = none → ∃ t, exec i s = .next t ∧
        t.result = some (.err .communicationError) ∧ t.lastStatus = some q.b0 ∧
        t.lastStatus ≠ some s.params.commErrCode ∧ t.pending = none ∧ t.env = afterXfers s.env 2))

/-- A status byte equal to `COMM_ERR_CODE` ends a register transaction before its data phase, with
`CommunicationError`; the byte is retained, and all that was done is the command phase, with the command byte of the
access (R96, R130, R271; decisions D4, D5, D7, D13: log 16, log 23), and, for a write of bank 0 that the host issues, the
clearing of `cache_valid` before it (R243, R279; decision D40: log 28; for the rows WR32 and WR8: log 13). -/
def Obligations.ErrorStatusEndsTransaction : Prop :=
  ∀ (s : State) (bank : Bank) (w : Word) (b : Byte) (q : Quad) (wr n : Bool) (i : Instr), bank.toNat ≤ 10 →
    (i, wr, n) ∈ [(.rd32 bank, false, false), (.readReg32 bank, false, false), (.wr32 bank w, true, false),
      (.writeReg32 bank w, true, false), (.rd8 bank, false, true), (.readReg8 bank, false, true),
      (.wr8 bank b, true, true), (.writeReg8 bank b, true, true)] →
    answerAt s.env 0 = some q → q.b0 = s.params.commErrCode →
    exec i s = .next { s with
      lastStatus := some s.params.commErrCode
      pending := none
      cmdSel := .deasserted
      cacheValid := s.cacheValid && !(wr && bank == 0)
      env := afterXfers s.env 1
      trace := s.trace ++ commandEvents bank wr n (some q)
      result := some (.err .communicationError) }

/-- A bank of 11 to 15 is answered `InvalidParameter` with no transport call and no other change (R86; decision D6:
log 15). -/
def Obligations.ReservedBankRejected : Prop :=
  ∀ (s : State) (bank : Bank) (w : Word) (b : Byte) (wr n : Bool) (i : Instr), 10 < bank.toNat →
    i ∈ [.rd32 bank, .wr32 bank w, .rd8 bank, .wr8 bank b, .writeCommand bank wr n, .writeReg32 bank w,
      .readReg32 bank, .writeReg8 bank b, .readReg8 bank, .rawWriteRegister bank w, .rawReadRegister bank] →
    exec i s = .next { s with result := some (.err .invalidParameter) }

/-- A register transaction makes no exchange (reserved bank), one or two, and after it no command is pending (R135 (4),
(5), R129; the spec's own derivation; with a reserved bank nothing changes). -/
def Obligations.TransactionMakesAtMostTwoExchanges : Prop :=
  ∀ (s t : State) (bank : Bank) (w : Word) (b : Byte) (i : Instr),
    i ∈ [.rd32 bank, .wr32 bank w, .rd8 bank, .wr8 bank b, .writeReg32 bank w, .readReg32 bank, .writeReg8 bank b,
      .readReg8 bank] →
    exec i s = .next t →
    (bank.toNat ≤ 10 → t.pending = none ∧ (t.env = afterXfers s.env 1 ∨ t.env = afterXfers s.env 2)) ∧
    (10 < bank.toNat → t.env = s.env ∧ t.trace = s.trace)

/-- Each of the four register accesses of the wire view, WR32, RD32, WR8 and RD8, is its two phases issued one after the
other, where the command phase reports no communication error (R100, decision D46: log 13; where it reports one, the
abort rule of R130: ErrorStatusEndsTransaction); `TransportError` of the data phase is `CommunicationError` of the
access. -/
def Obligations.TransactionIsItsTwoPhases : Prop :=
  ∀ (s t1 : State) (bank : Bank) (w : Word) (b : Byte) (c : CommStatus), c.commError = false →
    t1.result = some (.ok (.commStatus c)) →
    (exec (.writeCommand bank true false) s = .next t1 →
      ∃ t2 r, exec (.writeData32 w) t1 = .next t2 ∧ exec (.wr32 bank w) s = .next (t2.withResult r) ∧
        (t2.result = some (.ok .unit) ∧ r = .ok .unit ∨
          t2.result = some .transportError ∧ r = .err .communicationError)) ∧
    (exec (.writeCommand bank false false) s = .next t1 →
      ∃ t2 r, exec .readData32 t1 = .next t2 ∧ exec (.rd32 bank) s = .next (t2.withResult r) ∧
        ((∃ v, t2.result = some (.ok (.word v)) ∧ r = .ok (.word v)) ∨
          t2.result = some .transportError ∧ r = .err .communicationError)) ∧
    (exec (.writeCommand bank true true) s = .next t1 →
      ∃ t2 r, exec (.writeData8 b) t1 = .next t2 ∧ exec (.wr8 bank b) s = .next (t2.withResult r) ∧
        (t2.result = some (.ok .unit) ∧ r = .ok .unit ∨
          t2.result = some .transportError ∧ r = .err .communicationError)) ∧
    (exec (.writeCommand bank false true) s = .next t1 →
      ∃ t2 r, exec .readData8 t1 = .next t2 ∧ exec (.rd8 bank) s = .next (t2.withResult r) ∧
        ((∃ v, t2.result = some (.ok (.byte v)) ∧ r = .ok (.byte v)) ∨
          t2.result = some .transportError ∧ r = .err .communicationError))

/-! ### Register Codec -/

/-- The pack and unpack operations and the register rows hand the host the word or the record, and change nothing else
(R150 to R159; layouts: StatusWordLayout, ChannelWordLayout, FaultWordLayout, DpmWordLayout; the register rows as
operations are the model's, log 12). -/
def Obligations.CodecOperationsComplete : Prop :=
  ∀ (s : State) (w : Word) (x : StatusWord) (r : ChannelRaw) (f : FaultWord) (d : DpmConfig),
    exec (.packStatus x) s = .next (s.withResult (.ok (.word (packStatus x)))) ∧
    exec (.unpackStatus w) s = .next (s.withResult (.ok (.statusWord (unpackStatus w)))) ∧
    exec (.packChannel r) s = .next (s.withResult (.ok (.word (packChannel r)))) ∧
    exec (.unpackChannel w) s = .next (s.withResult (.ok (.channelRaw (unpackChannel w)))) ∧
    exec (.packFault f) s = .next (s.withResult (.ok (.word (packFault f)))) ∧
    exec (.unpackFault w) s = .next (s.withResult (.ok (.faultWord (unpackFault w)))) ∧
    exec (.packDpm d) s = .next (s.withResult (.ok (.word (packDpm d)))) ∧
    exec (.unpackDpm w) s = .next (s.withResult (.ok (.dpmConfig (unpackDpm w)))) ∧
    exec (.regStatus w) s = .next (s.withResult (.ok (.statusFormat (unpackStatus w) w))) ∧
    exec (.regCfgCh w) s = .next (s.withResult (.ok (.channelFormat (unpackChannel w) w))) ∧
    exec (.regFault w) s = .next (s.withResult (.ok (.faultFormat (unpackFault w) w))) ∧
    exec (.regCfgDpm w) s = .next (s.withResult (.ok (.dpmFormat (unpackDpm w) (w &&& 0x00007FFF#32))))

/-- R162: `decodeChannel` is the unpacked word in engineering units, without error, and nothing else changes; the
source's example word at 1000 mA and 100 kHz decodes to 630 mA, 315 mA and 48/5 ms, and re-encodes to itself. -/
def Obligations.DecodeChannelCompletes : Prop :=
  (∀ (s : State) (w : Word) (ctx : ConvContext), exec (.decodeChannel w ctx) s =
    .next (s.withResult (.ok (.channelConfig (dequantizeChannel (unpackChannel w) ctx))))) ∧
  decodeChannel 0x28500600 ⟨1000, .base100k⟩ =
    { halfScale := false, holdSetpoint := .finite 315, trigger := .spi, hitSetpoint := .finite 630,
      hitTimeMs := .finite (48 / 5), driveMode := .current, sideMode := .lowSide, chopSel := 0,
      slewRateControl := false, openLoadEn := false, plungerDetectEn := false, hitCheckEn := false } ∧
  (∀ (p : Config.Params), encodeChannel p (decodeChannel 0x28500600 ⟨1000, .base100k⟩) ⟨1000, .base100k⟩
    ⟨1000, none, none⟩ = .ok 0x28500600)

/-- `quantizeChannel` and `encodeChannel` (R161, R189, R193, R194; decisions D3, D22 to D25, D29, D30): with finite
setpoints and slew-rate control legal, and in `Current` mode a positive full scale, the codes are those of the time and
of the setpoints, each the minimum with the ceiling of its mode where that ceiling is present (milliamps and the current
ceiling in `Current` mode, percent and the duty ceiling in `Voltage` mode; a ceiling may have any value and never causes
an error); every flag is copied, and nothing but the result is written. -/
def Obligations.QuantizeCompletes : Prop :=
  ∀ (s : State) (cfg : ChannelConfig) (ctx : ConvContext) (board : BoardScale) (hit hold ms : Rat),
    cfg.hitSetpoint = .finite hit → cfg.holdSetpoint = .finite hold → cfg.hitTimeMs = .finite ms →
    (cfg.driveMode = .current → 0 < ctx.fullScaleMa) →
    (cfg.slewRateControl = true → chopKhz ctx.clockBase cfg.chopSel < 50) →
    let capI (v : Rat) := board.maxCurrentMa.elim v (fun ceiling => min v ceiling)
    let capD (v : Rat) := board.maxDutyPct.elim v (fun ceiling => min v ceiling)
    ∃ hitCode holdCode timeCode, ∃ r : ChannelRaw,
      (cfg.driveMode = .current →
        codeFromMa (.finite ctx.fullScaleMa) (.finite (capI hit)) = .ok hitCode ∧
        codeFromMa (.finite ctx.fullScaleMa) (.finite (capI hold)) = .ok holdCode) ∧
      (cfg.driveMode = .voltage →
        codeFromDuty s.params (.finite (capD hit)) ctx.clockBase cfg.chopSel cfg.slewRateControl = .ok hitCode ∧
        codeFromDuty s.params (.finite (capD hold)) ctx.clockBase cfg.chopSel cfg.slewRateControl = .ok holdCode) ∧
      codeFromMs (.finite ms) (chopKhz ctx.clockBase cfg.chopSel) = .ok timeCode ∧
      r = { halfScale := cfg.halfScale, holdCode := holdCode, trigger := cfg.trigger, hitCode := hitCode,
            hitTimeCode := timeCode, driveMode := cfg.driveMode, sideMode := cfg.sideMode, chopSel := cfg.chopSel,
            slewRateControl := cfg.slewRateControl, openLoadEn := cfg.openLoadEn,
            plungerDetectEn := cfg.plungerDetectEn, hitCheckEn := cfg.hitCheckEn } ∧
      exec (.quantizeChannel cfg ctx board) s = .next (s.withResult (.ok (.channelRaw r))) ∧
      exec (.encodeChannel cfg ctx board) s = .next (s.withResult (.ok (.word (packChannel r))))

/-- `quantizeChannel` and `encodeChannel` reject a non-finite value, slew-rate control at 50 kHz or above in either drive
mode, and `Current` mode without a positive full scale, with `InvalidParameter` and no other change (R188, R194, R197;
decisions D26, D29, D55). -/
def Obligations.QuantizeRejects : Prop :=
  ∀ (s : State) (cfg : ChannelConfig) (ctx : ConvContext) (board : BoardScale),
    (cfg.hitSetpoint = .nonFinite ∨ cfg.holdSetpoint = .nonFinite ∨ cfg.hitTimeMs = .nonFinite ∨
      (cfg.slewRateControl = true ∧ 50 ≤ chopKhz ctx.clockBase cfg.chopSel) ∨
      (cfg.driveMode = .current ∧ ctx.fullScaleMa ≤ 0)) →
    exec (.quantizeChannel cfg ctx board) s = .next (s.withResult (.err .invalidParameter)) ∧
    exec (.encodeChannel cfg ctx board) s = .next (s.withResult (.err .invalidParameter))

/-! ### Unit Conversion -/

/-- The chop-frequency lookup (R181; the order of the divisors is decision D21). -/
def Obligations.ChopFrequencyTable : Prop :=
  ∀ s : State,
    exec (.chopKhz .base100k 0) s = .next (s.withResult (.ok (.integer 25))) ∧
    exec (.chopKhz .base100k 1) s = .next (s.withResult (.ok (.integer 33))) ∧
    exec (.chopKhz .base100k 2) s = .next (s.withResult (.ok (.integer 50))) ∧
    exec (.chopKhz .base100k 3) s = .next (s.withResult (.ok (.integer 100))) ∧
    exec (.chopKhz .base80k 0) s = .next (s.withResult (.ok (.integer 20))) ∧
    exec (.chopKhz .base80k 1) s = .next (s.withResult (.ok (.integer 26))) ∧
    exec (.chopKhz .base80k 2) s = .next (s.withResult (.ok (.integer 40))) ∧
    exec (.chopKhz .base80k 3) s = .next (s.withResult (.ok (.integer 80)))

/-- `codeFromMa` and the linear duty mapping (R182, R185, R197; decisions D3, D25, D26, D55): zero for a value of at most
zero, else the rounded quotient saturated to 127; a full scale of at most zero and a non-finite operand are rejected. -/
def Obligations.LinearCodesComplete : Prop :=
  ∀ (s : State) (f v : Rat),
    (0 < f → ∃ c : Code7, exec (.codeFromMa (.finite f) (.finite v)) s = .next (s.withResult (.ok (.code7 c))) ∧
      (v ≤ 0 → c = 0) ∧ (0 < v → (c.toNat : Int) = min 127 ⌊v * 127 / f + 1 / 2⌋)) ∧
    (∃ c : Code7, exec (.dutyCodeLinear v) s = .next (s.withResult (.ok (.code7 c))) ∧
      (v ≤ 0 → c = 0) ∧ (0 < v → (c.toNat : Int) = min 127 ⌊v * 127 / 100 + 1 / 2⌋)) ∧
    (f ≤ 0 → exec (.codeFromMa (.finite f) (.finite v)) s = .next (s.withResult (.err .invalidParameter))) ∧
    (∀ e, exec (.codeFromMa .nonFinite e) s = .next (s.withResult (.err .invalidParameter)) ∧
      exec (.codeFromMa e .nonFinite) s = .next (s.withResult (.err .invalidParameter)))

/-- The inverse mappings (R183, R186, R191, R195; decisions D3, D27, D28): rounded milliamps and percent, exact
milliseconds, and a channel record in engineering units with every flag copied. -/
def Obligations.InverseConversionsComplete : Prop :=
  ∀ (s : State) (f : Rat) (c : Code7) (t : Code8) (khz : Nat) (r : ChannelRaw) (ctx : ConvContext), 0 ≤ f →
    exec (.maFromCode f c) s = .next (s.withResult (.ok (.integer ⌊(c.toNat : Rat) * f / 127 + 1 / 2⌋))) ∧
    exec (.dutyFromCode c) s = .next (s.withResult (.ok (.integer ⌊(c.toNat : Rat) * 100 / 127 + 1 / 2⌋))) ∧
    exec (.msFromCode t khz) s = .next (s.withResult (.ok (.millis
      (if t = 0 then 0 else if t = 255 then -1 else (t.toNat : Rat) * 40 / khz)))) ∧
    exec (.dequantizeChannel r ctx) s = .next (s.withResult (.ok (.channelConfig
      { halfScale := r.halfScale
        holdSetpoint := .finite (if r.driveMode = .current then maFromCode ctx.fullScaleMa r.holdCode
          else dutyFromCode r.holdCode)
        trigger := r.trigger
        hitSetpoint := .finite (if r.driveMode = .current then maFromCode ctx.fullScaleMa r.hitCode
          else dutyFromCode r.hitCode)
        hitTimeMs := .finite (msFromCode r.hitTimeCode (chopKhz ctx.clockBase r.chopSel))
        driveMode := r.driveMode
        sideMode := r.sideMode
        chopSel := r.chopSel
        slewRateControl := r.slewRateControl
        openLoadEn := r.openLoadEn
        plungerDetectEn := r.plungerDetectEn
        hitCheckEn := r.hitCheckEn })))

/-- `dutyLimits` and `codeFromDuty` (R187 to R189; decisions D22, D23, D25, D29, D55): the three illegal pairs of
slew-rate control are rejected, and otherwise the percent is clamped to the range and mapped, so that a code of 0 or 127
cannot arise. -/
def Obligations.DutyConversionsComplete : Prop :=
  ∀ (s : State) (base : ClockBase) (sel : Sel2) (src : Bool),
    let illegal := src = true ∧ ((base = .base100k ∧ (sel = 2 ∨ sel = 3)) ∨ (base = .base80k ∧ sel = 3))
    let lo := if src then 7 else if sel = s.params.dutyNarrowSel then 8 else 4
    let hi := if src then 93 else if sel = s.params.dutyNarrowSel then 92 else 96
    (illegal → exec (.dutyLimits base sel src) s = .next (s.withResult (.err .invalidParameter)) ∧
      ∀ p, exec (.codeFromDuty p base sel src) s = .next (s.withResult (.err .invalidParameter))) ∧
    (¬ illegal → exec (.dutyLimits base sel src) s = .next (s.withResult (.ok (.dutyRange lo hi))) ∧
      ∀ p : Rat, ∃ c : Code7,
        exec (.codeFromDuty (.finite p) base sel src) s = .next (s.withResult (.ok (.code7 c))) ∧
        (c.toNat : Int) = ⌊max (lo : Rat) (min hi p) * 127 / 100 + 1 / 2⌋ ∧ 5 ≤ c.toNat ∧ c.toNat ≤ 122) ∧
    exec (.codeFromDuty .nonFinite base sel src) s = .next (s.withResult (.err .invalidParameter))

/-- `codeFromMs` (R190; decisions D3, D55): the sentinels 0 and 255, and otherwise the rounded value clamped to 1..254. -/
def Obligations.TimingCodesComplete : Prop :=
  ∀ (s : State) (ms : Rat) (khz : Nat), khzWellFormed khz = true →
    (∃ c : Code8, exec (.codeFromMs (.finite ms) khz) s = .next (s.withResult (.ok (.code8 c))) ∧
      (ms = 0 → c.toNat = 0) ∧ ((ms < 0 ∨ 1000000 ≤ ms) → c.toNat = 255) ∧
      (0 < ms → ms < 1000000 → (c.toNat : Int) = max 1 (min 254 ⌊ms * khz / 40 + 1 / 2⌋))) ∧
    exec (.codeFromMs .nonFinite khz) s = .next (s.withResult (.err .invalidParameter))

/-- A timing code read back in milliseconds and converted again is the same code (R191; decision D28). -/
def Obligations.TimingRoundTrip : Prop :=
  ∀ (c : Code8) (khz : Nat), khzWellFormed khz = true → codeFromMs (.finite (msFromCode c khz)) khz = .ok c

/-- `codeFromMa` is monotone, saturates at 127 from the full scale up (R184 (1), S2), and on whole numbers of milliamps
is the integer quotient of R198 (the spec's own derivation; D3). -/
def Obligations.CurrentCodeMonotoneAndSaturating : Prop :=
  (∀ (f v v' : Rat) (c c' : Code7), 0 < f → v ≤ v' → codeFromMa (.finite f) (.finite v) = .ok c →
    codeFromMa (.finite f) (.finite v') = .ok c' → c.toNat ≤ c'.toNat) ∧
  (∀ f v : Rat, 0 < f → f ≤ v → codeFromMa (.finite f) (.finite v) = .ok 127) ∧
  (∀ f v : Nat, 0 < f → ∃ c, codeFromMa (.finite f) (.finite v) = .ok c ∧
    c.toNat = min 127 ((254 * v + f) / (2 * f)))

/-- A current code read back in whole milliamps and converted again is the same code from a full scale of 127 mA up, and
differs by at most one above 127/3 mA (R184 (3), (4), conflict C3; the spec's own derivation; D3). -/
def Obligations.CurrentCodeRoundTrip : Prop :=
  ∀ (f : Rat) (c : Code7),
    (127 ≤ f → codeFromMa (.finite f) (.finite (maFromCode f c)) = .ok c) ∧
    (127 / 3 < f → ∃ c', codeFromMa (.finite f) (.finite (maFromCode f c)) = .ok c' ∧
      c'.toNat ≤ c.toNat + 1 ∧ c.toNat ≤ c'.toNat + 1)

/-- The re-encode law in its general form (R196, the spec's own derivation; D3, D28): a raw record in `Current` mode,
read in a context of at least 127 mA where slew-rate control is legal, with ceilings absent or not below the decoded
setpoints, is quantized back to itself, bit for bit. -/
def Obligations.ReencodeIsIdentityInCurrentMode : Prop :=
  ∀ (p : Config.Params) (r : ChannelRaw) (ctx : ConvContext) (board : BoardScale),
    r.driveMode = .current → 127 ≤ ctx.fullScaleMa →
    (r.slewRateControl = true → chopKhz ctx.clockBase r.chopSel < 50) →
    (∀ m ∈ board.maxCurrentMa, (maFromCode ctx.fullScaleMa r.hitCode : Rat) ≤ m ∧
      (maFromCode ctx.fullScaleMa r.holdCode : Rat) ≤ m) →
    quantizeChannel p (dequantizeChannel r ctx) ctx board = .ok r ∧
    encodeChannel p (decodeChannel (packChannel r) ctx) ctx board = .ok (packChannel r)

/-! ### Device State Manager -/

/-- `initialize` whose first attempt succeeds (R221; decisions D35, D41, D47): enable asserted, 500 microseconds, read,
write, re-read of STATUS; the word written is the word read with all channels off and the device enabled; the re-read
word is cached; the manager is Active. -/
def Obligations.InitializeCompletes : Prop :=
  (∀ (s : State) (q1 d1 q2 a2 q3 d3 : Quad),
    statusOkAt s 0 q1 → answerAt s.env 1 = some d1 → statusOkAt s 2 q2 → answerAt s.env 3 = some a2 →
    statusOkAt s 4 q3 → answerAt s.env 5 = some d3 →
    exec .initializeDevice s = .next { s with
      lastStatus := some q3.b0
      pending := none
      cmdSel := .deasserted
      enable := .asserted
      dsmState := .active
      cache := unpackStatus (data32rWord d3)
      cacheValid := true
      env := afterXfers s.env 6
      trace := s.trace ++ [.setLine .enable .asserted, .delay 500] ++
        commandEvents 0 false false (some q1) ++ [.xfer (fill32 s.params) (some (quadBytes d1))] ++
        commandEvents 0 true false (some q2) ++
          [.xfer (quadBytes (data32wBytes (initWord (data32rWord d1)))) (some (quadBytes a2))] ++
        commandEvents 0 false false (some q3) ++ [.xfer (fill32 s.params) (some (quadBytes d3))]
      result := some (.ok .unit) }) ∧
  (∀ w, initWord w = (w &&& 0x00FFFFFE#32) ||| 1#32)

/-- The three attempts of `initialize` (R221, R222; decisions D35, D47: log 24). After the enable line is asserted and one
delay, an attempt that fails, in its read, its write or its re-read, by a failed exchange or by the error status byte, is
followed at once by the next, whole attempt, which begins with its own read: no delay, no line and no other event between
them. The first attempt that completes ends it: the re-read word is the cache and the manager is Active. After three
failed attempts it returns `CommunicationError` in Uninitialized, the cache invalid and the enable line asserted.
Source scenario S9: with the communication-error status byte on the first command of the first two attempts
and success on the third `initialize` succeeds after 8 exchanges; with it on all three it returns
`CommunicationError` after 3, and the manager is Uninitialized. Whatever is answered it returns after 3 to 18 exchanges,
at least 6 when it succeeds (R222, R315). The counts are the spec's own derivation; details D35 (log 24). -/
def Obligations.InitializeRetryLaw : Prop :=
  ∀ s : State,
    let s0 : State := { s with
      enable := .asserted
      trace := s.trace ++ [.setLine .enable .asserted, .delay 500] }
    let endsActive (w : Word) (t : State) : Prop := exec .initializeDevice s = .next { t with
      dsmState := .active
      cache := unpackStatus w
      cacheValid := true
      result := some (.ok .unit) }
    (∀ w t, attemptCompletes s0 w t → endsActive w t) ∧
    (∀ t1 w t, attemptFails s0 t1 → attemptCompletes t1 w t → endsActive w t) ∧
    (∀ t1 t2 w t, attemptFails s0 t1 → attemptFails t1 t2 → attemptCompletes t2 w t → endsActive w t) ∧
    (∀ t1 t2 t3, attemptFails s0 t1 → attemptFails t1 t2 → attemptFails t2 t3 →
      exec .initializeDevice s = .next { t3 with
        dsmState := .uninitialized
        cacheValid := false
        result := some (.err .communicationError) }) ∧
    (∀ q0 q1 q2 d2 q4 a5 q6 d7 : Quad,
      answerAt s.env 0 = some q0 → q0.b0 = s.params.commErrCode →
      answerAt s.env 1 = some q1 → q1.b0 = s.params.commErrCode →
      statusOkAt s 2 q2 → answerAt s.env 3 = some d2 → statusOkAt s 4 q4 → answerAt s.env 5 = some a5 →
      statusOkAt s 6 q6 → answerAt s.env 7 = some d7 →
      ∃ t, exec .initializeDevice s = .next t ∧ t.result = some (.ok .unit) ∧ t.dsmState = .active ∧
        t.env = afterXfers s.env 8 ∧ t.cacheValid = true ∧ t.cache = unpackStatus (data32rWord d7)) ∧
    (∀ q0 q1 q2 : Quad,
      answerAt s.env 0 = some q0 → q0.b0 = s.params.commErrCode →
      answerAt s.env 1 = some q1 → q1.b0 = s.params.commErrCode →
      answerAt s.env 2 = some q2 → q2.b0 = s.params.commErrCode →
      ∃ t, exec .initializeDevice s = .next t ∧ t.result = some (.err .communicationError) ∧
        t.dsmState = .uninitialized ∧ t.cacheValid = false ∧ t.enable = .asserted ∧ t.env = afterXfers s.env 3) ∧
    (∃ t n, exec .initializeDevice s = .next t ∧ t.env = afterXfers s.env n ∧ n ≤ 18 ∧
      (t.result = some (.ok .unit) → 6 ≤ n) ∧ (t.result ≠ some (.ok .unit) → 3 ≤ n))

/-- `deinitialize` (R223; decisions D36, D41): from `Uninitialized` the enable line alone; from `Active` with a valid cache
one full write of the cached word with all channels off and the device disabled; it answers `Ok` when that write
succeeds and `CommunicationError` when it fails, with nothing but the failed write done before the line; and whatever is
answered it ends in `Uninitialized` with the enable line deasserted and the cache invalid, and returns one of the two. -/
def Obligations.DeinitializeCompletes : Prop :=
  ∀ s : State,
    (s.dsmState = .uninitialized → exec .deinitialize s = .next { s with
      enable := .deasserted
      cacheValid := false
      trace := s.trace ++ [.setLine .enable .deasserted]
      result := some (.ok .unit) }) ∧
    (∀ q a, s.dsmState = .active → s.cacheValid = true → statusOkAt s 0 q → answerAt s.env 1 = some a →
      exec .deinitialize s = .next { s with
        lastStatus := some q.b0
        pending := none
        cmdSel := .deasserted
        enable := .deasserted
        dsmState := .uninitialized
        cacheValid := false
        env := afterXfers s.env 2
        trace := s.trace ++ commandEvents 0 true false (some q) ++
          [.xfer (quadBytes (data32wBytes (packStatus s.cache &&& 0x00FFFFFE#32))) (some (quadBytes a)),
           .setLine .enable .deasserted]
        result := some (.ok .unit) }) ∧
    (∀ t, s.dsmState = .active → s.cacheValid = true →
      failedTransfer 0 true false (quadBytes (data32wBytes (packStatus s.cache &&& 0x00FFFFFE#32))) s t →
      exec .deinitialize s = .next { t with
        enable := .deasserted
        dsmState := .uninitialized
        cacheValid := false
        trace := t.trace ++ [.setLine .enable .deasserted]
        result := some (.err .communicationError) }) ∧
    (∃ t es, exec .deinitialize s = .next t ∧ t.dsmState = .uninitialized ∧ t.enable = .deasserted ∧
      (t.result = some (.ok .unit) ∨ t.result = some (.err .communicationError)) ∧
      t.cacheValid = false ∧ t.trace = s.trace ++ es ++ [.setLine .enable .deasserted])

/-- Index operands are checked first, in both states of the sequencer, without a transport call or another change (R224,
S8; the order of the checks is decision D32, the refusal of bank 9 D49: log 26, log 27). -/
def Obligations.IndexChecksComeFirst : Prop :=
  ∀ (s : State) (ch pair : Nat) (cfg : ChannelConfig) (on : Bool) (mode : PairMode) (w : Word) (bank : Bank),
    (7 < ch → ∀ i ∈ [Instr.configureChannel ch cfg, .getChannelConfig ch, .setChannelEnabled ch on],
      exec i s = .next { s with result := some (.err .invalidParameter) }) ∧
    (3 < pair → exec (.setPairMode pair mode) s = .next { s with result := some (.err .invalidParameter) }) ∧
    (bank = 9 → exec (.rawWriteRegister bank w) s = .next { s with result := some (.err .invalidParameter) })

/-- In `Uninitialized` every operation that needs `Active` answers `ERR_NOT_ACTIVE` without a transport call or another
change, so that nothing before `initialize` makes a register access through the manager (R220, R276, R285, R301; decisions
D32, D33: log 26; that `ensureCache`, which the host never issues, answers so when it is run alone: log 14). -/
def Obligations.GatedOperationsNeedActive : Prop :=
  ∀ (s : State) (ch pair : Nat) (cfg : ChannelConfig) (on : Bool) (mode : PairMode) (mask : Byte) (d : DpmConfig)
    (w : Word) (bank : Bank) (i : Instr),
    s.dsmState = .uninitialized → ch ≤ 7 → pair ≤ 3 → bank.toNat ≤ 10 → bank ≠ 9 →
    i ∈ [Instr.configureChannel ch cfg, .getChannelConfig ch, .setChannelsOn mask, .setChannelEnabled ch on,
      .setPairMode pair mode, .readStatus, .readFaults, .getDpmConfig, .setDpmConfig d, .rawWriteRegister bank w,
      .rawReadRegister bank, .rawReadRegister 9, .ensureCache] →
    exec i s = .next { s with result := some (.err s.params.errNotActive) }

/-- The pre-flight check (R226; decisions D31, D55: log 27): exactly which configurations pass; a combinational
operation. -/
def Obligations.ValidateChannelCompletes : Prop :=
  ∀ (s : State) (cfg : ChannelConfig) (board : BoardScale),
    let passes := cfg.hitSetpoint ≠ .nonFinite ∧ cfg.holdSetpoint ≠ .nonFinite ∧ cfg.hitTimeMs ≠ .nonFinite ∧
      (cfg.driveMode = .current → cfg.sideMode = .lowSide ∧ board.fullScaleMa ≠ 0) ∧
      (cfg.sideMode = .highSide →
        cfg.halfScale = false ∧ cfg.slewRateControl = false ∧ cfg.plungerDetectEn = false)
    (passes → exec (.validateChannel cfg board) s = .next (s.withResult (.ok .unit))) ∧
    (¬ passes → exec (.validateChannel cfg board) s = .next (s.withResult (.err .invalidParameter)))

/-- `configureChannel` and `getChannelConfig` in `Active` (R225, R227, R228; decisions D31, D32, D52). A configuration that
the pre-flight check rejects makes no transport call, whether the cache is valid or not, since the value operands are
checked before the forced re-read (R224, R278). With a valid cache: one full write, or one full read, of register 1 + ch,
converted in the context of the board's full scale and the cached clock base; a configuration that the conversion rejects
makes no transport call. -/
def Obligations.ChannelConfigurationCompletes : Prop :=
  ∀ (s : State) (ch : Nat) (cfg : ChannelConfig), ch ≤ 7 → s.dsmState = .active →
    (∀ k, validateChannel cfg s.board = .error k →
      exec (.configureChannel ch cfg) s = .next { s with result := some (.err .invalidParameter) }) ∧
    (∀ w q a, s.cacheValid = true → validateChannel cfg s.board = .ok () →
      encodeChannel s.params cfg ⟨s.board.fullScaleMa, s.cache.clockBase⟩ s.board = .ok w →
      statusOkAt s 0 q → answerAt s.env 1 = some a →
      exec (.configureChannel ch cfg) s = .next
        { afterTransaction (BitVec.ofNat 4 (1 + ch)) true false q (quadBytes (data32wBytes w)) (some a) s with
          result := some (.ok .unit) }) ∧
    (∀ k, s.cacheValid = true → encodeChannel s.params cfg ⟨s.board.fullScaleMa, s.cache.clockBase⟩ s.board = .error k →
      exec (.configureChannel ch cfg) s = .next { s with result := some (.err .invalidParameter) }) ∧
    (∀ q a, s.cacheValid = true → statusOkAt s 0 q → answerAt s.env 1 = some a →
      exec (.getChannelConfig ch) s = .next
        { afterTransaction (BitVec.ofNat 4 (1 + ch)) false false q (fill32 s.params) (some a) s with
          result := some (.ok (.channelConfig
            (decodeChannel (data32rWord a) ⟨s.board.fullScaleMa, s.cache.clockBase⟩))) })

/-- `setChannelsOn` and, with a valid cache, `setChannelEnabled` (R229, R230; decisions D37, D39: log 28): one narrow write
of the mask to bank 0, and the cached mask follows it. -/
def Obligations.ChannelSwitchingCompletes : Prop :=
  ∀ (s : State) (q a : Quad), s.dsmState = .active → statusOkAt s 0 q → answerAt s.env 1 = some a →
    (∀ mask, exec (.setChannelsOn mask) s = .next { afterTransaction 0 true true q [mask] (some a) s with
      cache := if s.cacheValid then { s.cache with channelsOn := mask } else s.cache
      result := some (.ok .unit) }) ∧
    (∀ ch on, ch ≤ 7 → s.cacheValid = true → ∃ mask : Byte,
      (∀ k, k < 8 → mask.getLsbD k = if k = ch then on else s.cache.channelsOn.getLsbD k) ∧
      exec (.setChannelEnabled ch on) s = .next { afterTransaction 0 true true q [mask] (some a) s with
        cache := { s.cache with channelsOn := mask }
        result := some (.ok .unit) })

/-- `setPairMode` in `Active` (R231, R33; decisions D32, D38, D41, D54: log 26, log 27): the reserved mode is refused without
a transport call, whether the cache is valid or not, since the value operands are checked before the forced re-read (R224,
R278). With a valid cache: refused without a transport call while a channel of the pair is on; otherwise one full write of the cached word with that pair's mode
changed, which becomes the cache. -/
def Obligations.PairModeCompletes : Prop :=
  ∀ (s : State) (pair : Nat) (mode : PairMode), pair ≤ 3 → s.dsmState = .active →
    (mode = .reserved3 →
      exec (.setPairMode pair mode) s = .next { s with result := some (.err .invalidParameter) }) ∧
    (s.cacheValid = true → (s.cache.channelsOn.getLsbD (2 * pair) = true ∨
        s.cache.channelsOn.getLsbD (2 * pair + 1) = true) →
      exec (.setPairMode pair mode) s = .next { s with result := some (.err .invalidParameter) }) ∧
    (∀ q a, s.cacheValid = true → mode ≠ .reserved3 → s.cache.channelsOn.getLsbD (2 * pair) = false →
      s.cache.channelsOn.getLsbD (2 * pair + 1) = false → statusOkAt s 0 q → answerAt s.env 1 = some a →
      ∃ x : StatusWord, pairModeAt x.pairMode pair = mode ∧
        (∀ k, k ≤ 3 → k ≠ pair → pairModeAt x.pairMode k = pairModeAt s.cache.pairMode k) ∧
        { x with pairMode := s.cache.pairMode } = s.cache ∧
        exec (.setPairMode pair mode) s = .next
          { afterTransaction 0 true false q (quadBytes (data32wBytes (packStatus x))) (some a) s with
            cache := x
            result := some (.ok .unit) })

/-- The reads of the manager (R233, R237, R239, R241; decisions D40, D49): one full read of bank 0, 9, 10 or the bank
named; `readStatus` loads the cache, `rawReadRegister` does not. -/
def Obligations.ManagerReadsComplete : Prop :=
  ∀ (s : State) (q a : Quad), s.dsmState = .active → statusOkAt s 0 q → answerAt s.env 1 = some a →
    exec .readStatus s = .next { afterTransaction 0 false false q (fill32 s.params) (some a) s with
      cache := unpackStatus (data32rWord a)
      cacheValid := true
      result := some (.ok (.statusWord (unpackStatus (data32rWord a)))) } ∧
    exec .readFaults s = .next { afterTransaction 9 false false q (fill32 s.params) (some a) s with
      result := some (.ok (.faultWord ⟨a.b0, a.b1, a.b2, a.b3⟩)) } ∧
    exec .getDpmConfig s = .next { afterTransaction 10 false false q (fill32 s.params) (some a) s with
      result := some (.ok (.dpmConfig (unpackDpm (data32rWord a)))) } ∧
    (∀ bank : Bank, bank.toNat ≤ 10 →
      exec (.rawReadRegister bank) s = .next { afterTransaction bank false false q (fill32 s.params) (some a) s with
        result := some (.ok (.word (data32rWord a))) })

/-- The other writes of the manager (R235, R240; decisions D19, D40, D49): one full write; a raw write of bank 0
invalidates the cache, whatever the transfer answers. -/
def Obligations.ManagerWritesComplete : Prop :=
  ∀ (s : State), s.dsmState = .active →
    (∀ (q a : Quad) (d : DpmConfig) (w : Word) (bank : Bank), statusOkAt s 0 q → answerAt s.env 1 = some a →
      exec (.setDpmConfig d) s = .next
        { afterTransaction 10 true false q (quadBytes (data32wBytes (packDpm d))) (some a) s with
          result := some (.ok .unit) } ∧
      (bank.toNat ≤ 10 → bank ≠ 9 → exec (.rawWriteRegister bank w) s = .next
        { afterTransaction bank true false q (quadBytes (data32wBytes w)) (some a) s with
          cacheValid := s.cacheValid && bank != 0
          result := some (.ok .unit) })) ∧
    (∀ w, ∃ t, exec (.rawWriteRegister 0 w) s = .next t ∧ t.cacheValid = false)

/-- `setBoardScale` and `readFaultLine`, in both states of the sequencer (R234, R236; decisions D42, D49, D50): a board
scale of finite values of at least zero is taken, any other rejected; the line is read once and not kept. -/
def Obligations.BoardAndFaultLineComplete : Prop :=
  ∀ s : State,
    (∀ (f : Rat) (i d : Option Rat), 0 ≤ f → (∀ x ∈ i, 0 ≤ x) → (∀ x ∈ d, 0 ≤ x) →
      exec (.setBoardScale ⟨.finite f, i.map .finite, d.map .finite⟩) s = .next { s with
        board := ⟨f, i, d⟩
        result := some (.ok .unit) }) ∧
    (∀ (b : BoardRequest) (v : EngValue), (v = b.fullScaleMa ∨ b.maxCurrentMa = some v ∨ b.maxDutyPct = some v) →
      (v = .nonFinite ∨ ∃ x : Rat, x < 0 ∧ v = .finite x) →
      exec (.setBoardScale b) s = .next { s with result := some (.err .invalidParameter) }) ∧
    exec .readFaultLine s = .next { s with
      env := afterRead s.env
      trace := s.trace ++ [.readFault (lineAnswer s.env)]
      result := some (.ok (.level (lineAnswer s.env))) }

/-- The forced re-read in `Active` (R238, R66; decision D40: log 14, log 28; in `Uninitialized`:
GatedOperationsNeedActive; operands rejected before it: ChannelConfigurationCompletes, PairModeCompletes).
`ensureCache` with a valid cache does nothing; without one it reads STATUS and loads the cache, and each operation
that depends on the cache then goes on as it would from the state after that re-read. If the re-read fails, by a
failed command exchange, by the communication-error status byte or by a failed data exchange, the operation ends with
`CommunicationError`, the cache stays as it was and invalid, and nothing but the failed re-read has happened;
`deinitialize` alone then still ends in `Uninitialized` with the enable line deasserted (R223, decision D36: log 25). -/
def Obligations.DependentOperationsRereadFirst : Prop :=
  (∀ s : State, s.dsmState = .active → s.cacheValid = true → exec .ensureCache s = .next { s with result := some (.ok .unit) }) ∧
  (∀ (s : State) (q d : Quad), s.dsmState = .active → s.cacheValid = false → statusOkAt s 0 q →
    answerAt s.env 1 = some d → exec .ensureCache s = .next ((afterReread q d s).withResult (.ok .unit))) ∧
  (∀ s t : State, s.dsmState = .active → s.cacheValid = false → failedTransfer 0 false false (fill32 s.params) s t →
    exec .ensureCache s = .next { t with
      cacheValid := false
      result := some (.err .communicationError) }) ∧
  (∀ (s : State) (ch pair : Nat) (cfg : ChannelConfig) (on : Bool) (mode : PairMode) (i : Instr),
    s.dsmState = .active → s.cacheValid = false → ch ≤ 7 → pair ≤ 3 → mode ≠ .reserved3 →
    validateChannel cfg s.board = .ok () →
    i ∈ [Instr.configureChannel ch cfg, .getChannelConfig ch, .setChannelEnabled ch on, .setPairMode pair mode,
      .deinitialize] →
    (∀ q d, statusOkAt s 0 q → answerAt s.env 1 = some d → exec i s = exec i (afterReread q d s)) ∧
    (∀ t, failedTransfer 0 false false (fill32 s.params) s t →
      (i ≠ .deinitialize → exec i s = .next { t with
        cacheValid := false
        result := some (.err .communicationError) }) ∧
      (i = .deinitialize → exec i s = .next { t with
        enable := .deasserted
        dsmState := .uninitialized
        cacheValid := false
        trace := t.trace ++ [.setLine .enable .deasserted]
        result := some (.err .communicationError) })))

/-- R307: a write that bypasses the manager, a raw write of bank 0 or an engine write of bank 0 issued by the host,
invalidates the cache, and the next operation that depends on the cache re-reads STATUS first, going on as it would from
the state after that re-read. That the cache is invalidated whatever the transfer answers, in both states of the
sequencer, and which operations depend on the cache is decision D40 (R235, R238, R243: log 28); that the rows WR32 and
WR8 are writes issued by the host is the model's reading (log 13). -/
def Obligations.BypassWriteForcesReread : Prop :=
  ∀ (s t : State) (w : Word) (b : Byte) (n : Bool) (i : Instr),
    i ∈ [.rawWriteRegister 0 w, .writeReg32 0 w, .wr32 0 w, .writeReg8 0 b, .wr8 0 b, .writeCommand 0 true n] →
    (i = .rawWriteRegister 0 w → s.dsmState = .active) → exec i s = .next t →
    t.cacheValid = false ∧
    ∀ (ch pair : Nat) (cfg : ChannelConfig) (on : Bool) (mode : PairMode) (j : Instr) (q d : Quad),
      s.dsmState = .active → ch ≤ 7 → pair ≤ 3 → mode ≠ .reserved3 → validateChannel cfg s.board = .ok () →
      j ∈ [.configureChannel ch cfg, .getChannelConfig ch, .setChannelEnabled ch on, .setPairMode pair mode,
        .deinitialize] →
      statusOkAt t 0 q → answerAt t.env 1 = some d → exec j t = exec j (afterReread q d t)

/-- What an operation of the manager does when it fails (R65, R225 to R242, R271, R272, R279; decisions D13, D39 to D41,
D49: log 23, log 27, log 28). An operation that ends with an error leaves the cache, its validity, the board scale, the
sequencer and the enable line as they were, whatever the error, where the cache was valid or the operation does not
depend on it. And when the operation's own transfer fails, by a failed command exchange, by the communication-error
status byte or by a failed data exchange, it answers `CommunicationError` and has done nothing but that failed transfer;
`rawWriteRegister` of bank 0 has invalidated the cache before it (R235). Of the operations that depend on the cache the
transfer is the one made with a valid cache; the forced re-read is in DependentOperationsRereadFirst, `deinitialize` in
DeinitializeCompletes. -/
def Obligations.FailedTransferKeepsManagerState : Prop :=
  (∀ (s t : State) (ch pair : Nat) (cfg : ChannelConfig) (on : Bool) (mode : PairMode) (mask : Byte) (d : DpmConfig)
      (bank : Bank) (k : ErrorKind) (i : Instr),
    i ∈ [Instr.configureChannel ch cfg, .getChannelConfig ch, .setChannelsOn mask, .setChannelEnabled ch on,
      .setPairMode pair mode, .readStatus, .readFaults, .getDpmConfig, .setDpmConfig d, .rawReadRegister bank] →
    (i ∈ [Instr.configureChannel ch cfg, .getChannelConfig ch, .setChannelEnabled ch on, .setPairMode pair mode] →
      s.cacheValid = true) →
    exec i s = .next t → t.result = some (.err k) →
    t.cache = s.cache ∧ t.cacheValid = s.cacheValid ∧ t.board = s.board ∧ t.dsmState = s.dsmState ∧
      t.enable = s.enable) ∧
  (∀ (s t : State), s.dsmState = .active →
    let fails (bank : Bank) (isWrite narrow : Bool) (tx : List Byte) (i : Instr) : Prop :=
      failedTransfer bank isWrite narrow tx s t →
      exec i s = .next { t with result := some (.err .communicationError) }
    (∀ mask, fails 0 true true [mask] (.setChannelsOn mask)) ∧
    fails 0 false false (fill32 s.params) .readStatus ∧
    fails 9 false false (fill32 s.params) .readFaults ∧
    fails 10 false false (fill32 s.params) .getDpmConfig ∧
    (∀ d, fails 10 true false (quadBytes (data32wBytes (packDpm d))) (.setDpmConfig d)) ∧
    (∀ bank : Bank, bank.toNat ≤ 10 → fails bank false false (fill32 s.params) (.rawReadRegister bank)) ∧
    (∀ (bank : Bank) (w : Word), bank.toNat ≤ 10 → bank ≠ 9 →
      failedTransfer bank true false (quadBytes (data32wBytes w)) s t →
      exec (.rawWriteRegister bank w) s = .next { t with
        cacheValid := s.cacheValid && bank != 0
        result := some (.err .communicationError) }) ∧
    (s.cacheValid = true →
      (∀ ch cfg w, ch ≤ 7 → validateChannel cfg s.board = .ok () →
        encodeChannel s.params cfg ⟨s.board.fullScaleMa, s.cache.clockBase⟩ s.board = .ok w →
        fails (BitVec.ofNat 4 (1 + ch)) true false (quadBytes (data32wBytes w)) (.configureChannel ch cfg)) ∧
      (∀ ch, ch ≤ 7 → fails (BitVec.ofNat 4 (1 + ch)) false false (fill32 s.params) (.getChannelConfig ch)) ∧
      (∀ ch on (mask : Byte), ch ≤ 7 →
        (∀ k, k < 8 → mask.getLsbD k = if k = ch then on else s.cache.channelsOn.getLsbD k) →
        fails 0 true true [mask] (.setChannelEnabled ch on)) ∧
      (∀ pair mode (x : StatusWord), pair ≤ 3 → mode ≠ .reserved3 →
        s.cache.channelsOn.getLsbD (2 * pair) = false → s.cache.channelsOn.getLsbD (2 * pair + 1) = false →
        pairModeAt x.pairMode pair = mode →
        (∀ k, k ≤ 3 → k ≠ pair → pairModeAt x.pairMode k = pairModeAt s.cache.pairMode k) →
        { x with pairMode := s.cache.pairMode } = s.cache →
        fails 0 true false (quadBytes (data32wBytes (packStatus x))) (.setPairMode pair mode))))
end

