-- ==== Sys2Proof/Laws/Operands.lean ====
section
/-! SUPPORT. Reading back what the host port writes: one lemma per operand form. -/

namespace Sys2Proof

@[simp] theorem thenRead_ok {α β : Type} (a : α) (r : List Byte) (k : α → List Byte → Read β) :
    thenRead (.ok (a, r)) k = k a r := rfl

@[simp] theorem thenRead_error {α β : Type} (e : DecodeError) (k : α → List Byte → Read β) :
    thenRead (.error e : Read α) k = .error e := rfl

/-- If the reading of two operands succeeds, each of them was read. -/
theorem thenRead_eq_ok {α β : Type} {p : Read α} {k : α → List Byte → Read β} {x : β × List Byte} :
    thenRead p k = .ok x ↔ ∃ a r, p = .ok (a, r) ∧ k a r = .ok x := by
  cases p with
  | error e => simp
  | ok v => obtain ⟨a, r⟩ := v; simp

@[simp] theorem getByte_putByte (b : Byte) (r : List Byte) : getByte (putByte b ++ r) = .ok (b, r) := rfl

@[simp] theorem getQuad_quadBytes (q : Quad) (r : List Byte) : getQuad (Machine.quadBytes q ++ r) = .ok (q, r) := rfl

/-- The word that a DATA32W frame carries is the word it was made of (R52). -/
@[simp] theorem data32wWord_data32wBytes (w : Word) : Machine.data32wWord (Machine.data32wBytes w) = w := by
  apply BitVec.eq_of_getLsbD_eq
  intro i hi
  simp only [Machine.data32wWord, Machine.data32wBytes]
  interval_cases i <;> simp

@[simp] theorem getWord_putWord (w : Word) (r : List Byte) : getWord (putWord w ++ r) = .ok (w, r) := by
  simp [getWord, putWord]

theorem getBits_putBits {n : Nat} (hn : n ≤ 8) (v : BitVec n) (r : List Byte) :
    getBits n (putBits v ++ r) = .ok (v, r) := by
  have h : v.toNat < 2 ^ n := v.isLt
  have h8 : (2 : Nat) ^ n ≤ 2 ^ 8 := Nat.pow_le_pow_right (by omega) hn
  have e : (v.setWidth 8).toNat = v.toNat := by
    simp only [BitVec.toNat_setWidth]
    exact Nat.mod_eq_of_lt (by omega)
  have e' : (v.setWidth 8).setWidth n = v := by
    apply BitVec.eq_of_toNat_eq
    simp only [BitVec.toNat_setWidth] at e ⊢
    rw [e, Nat.mod_eq_of_lt h]
  simp [getBits, putBits, e, h, e']

@[simp] theorem getFlag_putFlag (b : Bool) (r : List Byte) : getFlag (putFlag b ++ r) = .ok (b, r) := by
  cases b <;> rfl

@[simp] theorem getClockBase_putClockBase (c : ClockBase) (r : List Byte) :
    getClockBase (putClockBase c ++ r) = .ok (c, r) := by
  cases c <;> rfl

@[simp] theorem getPairMode_putPairMode (m : PairMode) (r : List Byte) :
    getPairMode (putPairMode m ++ r) = .ok (m, r) := by
  cases m <;> rfl

theorem getNat_putNatUpTo (k : Nat) : ∀ (n : Nat), n ≤ k → ∀ (r : List Byte),
    getNat (putNatUpTo k n ++ r) = .ok (n, r) := by
  induction k with
  | zero =>
    intro n hn r
    obtain rfl : n = 0 := by omega
    rfl
  | succ k ih =>
    intro n hn r
    by_cases h : n < 128
    · simp only [putNatUpTo, h, if_true, List.cons_append, List.nil_append, getNat]
      have e : (BitVec.ofNat 8 n).toNat = n := by simp; omega
      simp [e, h]
    · have e : (BitVec.ofNat 8 (n % 128 + 128)).toNat = n % 128 + 128 := by simp; omega
      have hd : n / 128 ≤ k := by omega
      simp only [putNatUpTo, h, if_false, List.cons_append, getNat, e, ih _ hd, thenRead_ok]
      rw [if_neg (by omega)]
      congr 2
      omega

@[simp] theorem getNat_putNat (n : Nat) (r : List Byte) : getNat (putNat n ++ r) = .ok (n, r) :=
  getNat_putNatUpTo n n (Nat.le_refl n) r

@[simp] theorem getInt_putInt (z : Int) (r : List Byte) : getInt (putInt z ++ r) = .ok (z, r) := by
  cases z with
  | ofNat n => simp [getInt, putInt]
  | negSucc n =>
    have h : (2 * n + 1) % 2 = 1 := by omega
    have h' : (2 * n + 1) / 2 = n := by omega
    simp [getInt, putInt, h, h']

@[simp] theorem getRat_putRat (q : Rat) (r : List Byte) : getRat (putRat q ++ r) = .ok (q, r) := by
  have h : q.den - 1 + 1 = q.den := Nat.succ_pred_eq_of_pos q.den_pos
  simp [getRat, putRat, h, Rat.mkRat_self]

theorem getNonNeg_putRat {q : Rat} (hq : 0 ≤ q) (r : List Byte) : getNonNeg (putRat q ++ r) = .ok (q, r) := by
  simp [getNonNeg, hq]

@[simp] theorem getEng_putEng (v : EngValue) (r : List Byte) : getEng (putEng v ++ r) = .ok (v, r) := by
  cases v <;> simp [getEng, putEng]

theorem getOption_putOption {α : Type} {get : List Byte → Read α} {put : α → List Byte} {o : Option α}
    (h : ∀ a ∈ o, ∀ r, get (put a ++ r) = .ok (a, r)) (r : List Byte) :
    getOption get (putOption put o ++ r) = .ok (o, r) := by
  cases o with
  | none => simp [getOption, putOption]
  | some a => simp [getOption, putOption, h a rfl]

theorem getKhz_putKhz {khz : Nat} (h : khzWellFormed khz = true) (r : List Byte) :
    getKhz (putKhz khz ++ r) = .ok (khz, r) := by
  simp only [khzWellFormed, Machine.chopFrequencies, List.contains_iff_mem, List.mem_cons, List.not_mem_nil,
    or_false] at h
  obtain rfl | rfl | rfl | rfl | rfl | rfl | rfl | rfl := h <;> rfl

@[simp] theorem getContext_putContext {c : ConvContext} (h : c.wellFormed = true) (r : List Byte) :
    getContext (putContext c ++ r) = .ok (c, r) := by
  have h' : 0 ≤ c.fullScaleMa := by simpa [ConvContext.wellFormed] using h
  simp [getContext, putContext, getNonNeg_putRat h']

theorem getCeiling_putOption (o : Option Rat) (r : List Byte) :
    getOption getRat (putOption putRat o ++ r) = .ok (o, r) :=
  getOption_putOption (fun a _ r => getRat_putRat a r) r

@[simp] theorem getBoard_putBoard {b : BoardScale} (h : b.wellFormed = true) (r : List Byte) :
    getBoard (putBoard b ++ r) = .ok (b, r) := by
  have hf : 0 ≤ b.fullScaleMa := by simpa [BoardScale.wellFormed] using h
  simp [getBoard, putBoard, getNonNeg_putRat hf, getCeiling_putOption]

@[simp] theorem getBoardRequest_putBoardRequest (b : BoardRequest) (r : List Byte) :
    getBoardRequest (putBoardRequest b ++ r) = .ok (b, r) := by
  have h : ∀ (o : Option EngValue) r, getOption getEng (putOption putEng o ++ r) = .ok (o, r) :=
    fun o r => getOption_putOption (fun a _ r => getEng_putEng a r) r
  simp [getBoardRequest, putBoardRequest, h]

end Sys2Proof
end

