-- ==== Sys2Proof/Laws/State.lean ====
section
/-! SUPPORT. One lemma per field and update of the state, each true by computation, so that no proof unfolds an update. -/

namespace Sys2Proof.Machine

variable (s : State)

@[simp] theorem withLastStatus_lastStatus (b : Byte) : (s.withLastStatus b).lastStatus = some b := rfl
@[simp] theorem withLastStatus_pending (b : Byte) : (s.withLastStatus b).pending = s.pending := rfl
@[simp] theorem withLastStatus_cmdSel (b : Byte) : (s.withLastStatus b).cmdSel = s.cmdSel := rfl
@[simp] theorem withLastStatus_enable (b : Byte) : (s.withLastStatus b).enable = s.enable := rfl
@[simp] theorem withLastStatus_dsmState (b : Byte) : (s.withLastStatus b).dsmState = s.dsmState := rfl
@[simp] theorem withLastStatus_cache (b : Byte) : (s.withLastStatus b).cache = s.cache := rfl
@[simp] theorem withLastStatus_cacheValid (b : Byte) : (s.withLastStatus b).cacheValid = s.cacheValid := rfl
@[simp] theorem withLastStatus_board (b : Byte) : (s.withLastStatus b).board = s.board := rfl
@[simp] theorem withLastStatus_params (b : Byte) : (s.withLastStatus b).params = s.params := rfl
@[simp] theorem withLastStatus_env (b : Byte) : (s.withLastStatus b).env = s.env := rfl
@[simp] theorem withLastStatus_trace (b : Byte) : (s.withLastStatus b).trace = s.trace := rfl
@[simp] theorem withLastStatus_requests (b : Byte) : (s.withLastStatus b).requests = s.requests := rfl
@[simp] theorem withLastStatus_result (b : Byte) : (s.withLastStatus b).result = s.result := rfl

@[simp] theorem withPending_lastStatus (p : Option Pending) : (s.withPending p).lastStatus = s.lastStatus := rfl
@[simp] theorem withPending_pending (p : Option Pending) : (s.withPending p).pending = p := rfl
@[simp] theorem withPending_cmdSel (p : Option Pending) : (s.withPending p).cmdSel = s.cmdSel := rfl
@[simp] theorem withPending_enable (p : Option Pending) : (s.withPending p).enable = s.enable := rfl
@[simp] theorem withPending_dsmState (p : Option Pending) : (s.withPending p).dsmState = s.dsmState := rfl
@[simp] theorem withPending_cache (p : Option Pending) : (s.withPending p).cache = s.cache := rfl
@[simp] theorem withPending_cacheValid (p : Option Pending) : (s.withPending p).cacheValid = s.cacheValid := rfl
@[simp] theorem withPending_board (p : Option Pending) : (s.withPending p).board = s.board := rfl
@[simp] theorem withPending_params (p : Option Pending) : (s.withPending p).params = s.params := rfl
@[simp] theorem withPending_env (p : Option Pending) : (s.withPending p).env = s.env := rfl
@[simp] theorem withPending_trace (p : Option Pending) : (s.withPending p).trace = s.trace := rfl
@[simp] theorem withPending_requests (p : Option Pending) : (s.withPending p).requests = s.requests := rfl
@[simp] theorem withPending_result (p : Option Pending) : (s.withPending p).result = s.result := rfl

@[simp] theorem withDsm_lastStatus (d : DsmState) : (s.withDsm d).lastStatus = s.lastStatus := rfl
@[simp] theorem withDsm_pending (d : DsmState) : (s.withDsm d).pending = s.pending := rfl
@[simp] theorem withDsm_cmdSel (d : DsmState) : (s.withDsm d).cmdSel = s.cmdSel := rfl
@[simp] theorem withDsm_enable (d : DsmState) : (s.withDsm d).enable = s.enable := rfl
@[simp] theorem withDsm_dsmState (d : DsmState) : (s.withDsm d).dsmState = d := rfl
@[simp] theorem withDsm_cache (d : DsmState) : (s.withDsm d).cache = s.cache := rfl
@[simp] theorem withDsm_cacheValid (d : DsmState) : (s.withDsm d).cacheValid = s.cacheValid := rfl
@[simp] theorem withDsm_board (d : DsmState) : (s.withDsm d).board = s.board := rfl
@[simp] theorem withDsm_params (d : DsmState) : (s.withDsm d).params = s.params := rfl
@[simp] theorem withDsm_env (d : DsmState) : (s.withDsm d).env = s.env := rfl
@[simp] theorem withDsm_trace (d : DsmState) : (s.withDsm d).trace = s.trace := rfl
@[simp] theorem withDsm_requests (d : DsmState) : (s.withDsm d).requests = s.requests := rfl
@[simp] theorem withDsm_result (d : DsmState) : (s.withDsm d).result = s.result := rfl

@[simp] theorem withCache_lastStatus (x : StatusWord) : (s.withCache x).lastStatus = s.lastStatus := rfl
@[simp] theorem withCache_pending (x : StatusWord) : (s.withCache x).pending = s.pending := rfl
@[simp] theorem withCache_cmdSel (x : StatusWord) : (s.withCache x).cmdSel = s.cmdSel := rfl
@[simp] theorem withCache_enable (x : StatusWord) : (s.withCache x).enable = s.enable := rfl
@[simp] theorem withCache_dsmState (x : StatusWord) : (s.withCache x).dsmState = s.dsmState := rfl
@[simp] theorem withCache_cache (x : StatusWord) : (s.withCache x).cache = x := rfl
@[simp] theorem withCache_cacheValid (x : StatusWord) : (s.withCache x).cacheValid = s.cacheValid := rfl
@[simp] theorem withCache_board (x : StatusWord) : (s.withCache x).board = s.board := rfl
@[simp] theorem withCache_params (x : StatusWord) : (s.withCache x).params = s.params := rfl
@[simp] theorem withCache_env (x : StatusWord) : (s.withCache x).env = s.env := rfl
@[simp] theorem withCache_trace (x : StatusWord) : (s.withCache x).trace = s.trace := rfl
@[simp] theorem withCache_requests (x : StatusWord) : (s.withCache x).requests = s.requests := rfl
@[simp] theorem withCache_result (x : StatusWord) : (s.withCache x).result = s.result := rfl

@[simp] theorem withCacheValid_lastStatus (v : Bool) : (s.withCacheValid v).lastStatus = s.lastStatus := rfl
@[simp] theorem withCacheValid_pending (v : Bool) : (s.withCacheValid v).pending = s.pending := rfl
@[simp] theorem withCacheValid_cmdSel (v : Bool) : (s.withCacheValid v).cmdSel = s.cmdSel := rfl
@[simp] theorem withCacheValid_enable (v : Bool) : (s.withCacheValid v).enable = s.enable := rfl
@[simp] theorem withCacheValid_dsmState (v : Bool) : (s.withCacheValid v).dsmState = s.dsmState := rfl
@[simp] theorem withCacheValid_cache (v : Bool) : (s.withCacheValid v).cache = s.cache := rfl
@[simp] theorem withCacheValid_cacheValid (v : Bool) : (s.withCacheValid v).cacheValid = v := rfl
@[simp] theorem withCacheValid_board (v : Bool) : (s.withCacheValid v).board = s.board := rfl
@[simp] theorem withCacheValid_params (v : Bool) : (s.withCacheValid v).params = s.params := rfl
@[simp] theorem withCacheValid_env (v : Bool) : (s.withCacheValid v).env = s.env := rfl
@[simp] theorem withCacheValid_trace (v : Bool) : (s.withCacheValid v).trace = s.trace := rfl
@[simp] theorem withCacheValid_requests (v : Bool) : (s.withCacheValid v).requests = s.requests := rfl
@[simp] theorem withCacheValid_result (v : Bool) : (s.withCacheValid v).result = s.result := rfl

@[simp] theorem withBoard_lastStatus (b : BoardScale) : (s.withBoard b).lastStatus = s.lastStatus := rfl
@[simp] theorem withBoard_pending (b : BoardScale) : (s.withBoard b).pending = s.pending := rfl
@[simp] theorem withBoard_cmdSel (b : BoardScale) : (s.withBoard b).cmdSel = s.cmdSel := rfl
@[simp] theorem withBoard_enable (b : BoardScale) : (s.withBoard b).enable = s.enable := rfl
@[simp] theorem withBoard_dsmState (b : BoardScale) : (s.withBoard b).dsmState = s.dsmState := rfl
@[simp] theorem withBoard_cache (b : BoardScale) : (s.withBoard b).cache = s.cache := rfl
@[simp] theorem withBoard_cacheValid (b : BoardScale) : (s.withBoard b).cacheValid = s.cacheValid := rfl
@[simp] theorem withBoard_board (b : BoardScale) : (s.withBoard b).board = b := rfl
@[simp] theorem withBoard_params (b : BoardScale) : (s.withBoard b).params = s.params := rfl
@[simp] theorem withBoard_env (b : BoardScale) : (s.withBoard b).env = s.env := rfl
@[simp] theorem withBoard_trace (b : BoardScale) : (s.withBoard b).trace = s.trace := rfl
@[simp] theorem withBoard_requests (b : BoardScale) : (s.withBoard b).requests = s.requests := rfl
@[simp] theorem withBoard_result (b : BoardScale) : (s.withBoard b).result = s.result := rfl

@[simp] theorem withResult_lastStatus (r : OpResult) : (s.withResult r).lastStatus = s.lastStatus := rfl
@[simp] theorem withResult_pending (r : OpResult) : (s.withResult r).pending = s.pending := rfl
@[simp] theorem withResult_cmdSel (r : OpResult) : (s.withResult r).cmdSel = s.cmdSel := rfl
@[simp] theorem withResult_enable (r : OpResult) : (s.withResult r).enable = s.enable := rfl
@[simp] theorem withResult_dsmState (r : OpResult) : (s.withResult r).dsmState = s.dsmState := rfl
@[simp] theorem withResult_cache (r : OpResult) : (s.withResult r).cache = s.cache := rfl
@[simp] theorem withResult_cacheValid (r : OpResult) : (s.withResult r).cacheValid = s.cacheValid := rfl
@[simp] theorem withResult_board (r : OpResult) : (s.withResult r).board = s.board := rfl
@[simp] theorem withResult_params (r : OpResult) : (s.withResult r).params = s.params := rfl
@[simp] theorem withResult_env (r : OpResult) : (s.withResult r).env = s.env := rfl
@[simp] theorem withResult_trace (r : OpResult) : (s.withResult r).trace = s.trace := rfl
@[simp] theorem withResult_requests (r : OpResult) : (s.withResult r).requests = s.requests := rfl
@[simp] theorem withResult_result (r : OpResult) : (s.withResult r).result = some r := rfl

@[simp] theorem withRequests_lastStatus (rs : List Frame) : (s.withRequests rs).lastStatus = s.lastStatus := rfl
@[simp] theorem withRequests_pending (rs : List Frame) : (s.withRequests rs).pending = s.pending := rfl
@[simp] theorem withRequests_cmdSel (rs : List Frame) : (s.withRequests rs).cmdSel = s.cmdSel := rfl
@[simp] theorem withRequests_enable (rs : List Frame) : (s.withRequests rs).enable = s.enable := rfl
@[simp] theorem withRequests_dsmState (rs : List Frame) : (s.withRequests rs).dsmState = s.dsmState := rfl
@[simp] theorem withRequests_cache (rs : List Frame) : (s.withRequests rs).cache = s.cache := rfl
@[simp] theorem withRequests_cacheValid (rs : List Frame) : (s.withRequests rs).cacheValid = s.cacheValid := rfl
@[simp] theorem withRequests_board (rs : List Frame) : (s.withRequests rs).board = s.board := rfl
@[simp] theorem withRequests_params (rs : List Frame) : (s.withRequests rs).params = s.params := rfl
@[simp] theorem withRequests_env (rs : List Frame) : (s.withRequests rs).env = s.env := rfl
@[simp] theorem withRequests_trace (rs : List Frame) : (s.withRequests rs).trace = s.trace := rfl
@[simp] theorem withRequests_requests (rs : List Frame) : (s.withRequests rs).requests = rs := rfl
@[simp] theorem withRequests_result (rs : List Frame) : (s.withRequests rs).result = s.result := rfl

@[simp] theorem withEnv_lastStatus (e : Env) : (s.withEnv e).lastStatus = s.lastStatus := rfl
@[simp] theorem withEnv_pending (e : Env) : (s.withEnv e).pending = s.pending := rfl
@[simp] theorem withEnv_cmdSel (e : Env) : (s.withEnv e).cmdSel = s.cmdSel := rfl
@[simp] theorem withEnv_enable (e : Env) : (s.withEnv e).enable = s.enable := rfl
@[simp] theorem withEnv_dsmState (e : Env) : (s.withEnv e).dsmState = s.dsmState := rfl
@[simp] theorem withEnv_cache (e : Env) : (s.withEnv e).cache = s.cache := rfl
@[simp] theorem withEnv_cacheValid (e : Env) : (s.withEnv e).cacheValid = s.cacheValid := rfl
@[simp] theorem withEnv_board (e : Env) : (s.withEnv e).board = s.board := rfl
@[simp] theorem withEnv_params (e : Env) : (s.withEnv e).params = s.params := rfl
@[simp] theorem withEnv_env (e : Env) : (s.withEnv e).env = e := rfl
@[simp] theorem withEnv_trace (e : Env) : (s.withEnv e).trace = s.trace := rfl
@[simp] theorem withEnv_requests (e : Env) : (s.withEnv e).requests = s.requests := rfl
@[simp] theorem withEnv_result (e : Env) : (s.withEnv e).result = s.result := rfl

@[simp] theorem record_lastStatus (e : Event) : (s.record e).lastStatus = s.lastStatus := rfl
@[simp] theorem record_pending (e : Event) : (s.record e).pending = s.pending := rfl
@[simp] theorem record_cmdSel (e : Event) : (s.record e).cmdSel = s.cmdSel := rfl
@[simp] theorem record_enable (e : Event) : (s.record e).enable = s.enable := rfl
@[simp] theorem record_dsmState (e : Event) : (s.record e).dsmState = s.dsmState := rfl
@[simp] theorem record_cache (e : Event) : (s.record e).cache = s.cache := rfl
@[simp] theorem record_cacheValid (e : Event) : (s.record e).cacheValid = s.cacheValid := rfl
@[simp] theorem record_board (e : Event) : (s.record e).board = s.board := rfl
@[simp] theorem record_params (e : Event) : (s.record e).params = s.params := rfl
@[simp] theorem record_env (e : Event) : (s.record e).env = s.env := rfl
@[simp] theorem record_trace (e : Event) : (s.record e).trace = s.trace ++ [e] := rfl
@[simp] theorem record_requests (e : Event) : (s.record e).requests = s.requests := rfl
@[simp] theorem record_result (e : Event) : (s.record e).result = s.result := rfl

@[simp] theorem setLine_enable_lastStatus (v : Level) : (setLine .enable v s).lastStatus = s.lastStatus := rfl
@[simp] theorem setLine_enable_pending (v : Level) : (setLine .enable v s).pending = s.pending := rfl
@[simp] theorem setLine_enable_cmdSel (v : Level) : (setLine .enable v s).cmdSel = s.cmdSel := rfl
@[simp] theorem setLine_enable_enable (v : Level) : (setLine .enable v s).enable = v := rfl
@[simp] theorem setLine_enable_dsmState (v : Level) : (setLine .enable v s).dsmState = s.dsmState := rfl
@[simp] theorem setLine_enable_cache (v : Level) : (setLine .enable v s).cache = s.cache := rfl
@[simp] theorem setLine_enable_cacheValid (v : Level) : (setLine .enable v s).cacheValid = s.cacheValid := rfl
@[simp] theorem setLine_enable_board (v : Level) : (setLine .enable v s).board = s.board := rfl
@[simp] theorem setLine_enable_params (v : Level) : (setLine .enable v s).params = s.params := rfl
@[simp] theorem setLine_enable_env (v : Level) : (setLine .enable v s).env = s.env := rfl
@[simp] theorem setLine_enable_trace (v : Level) : (setLine .enable v s).trace = s.trace ++ [.setLine .enable v] := rfl
@[simp] theorem setLine_enable_requests (v : Level) : (setLine .enable v s).requests = s.requests := rfl
@[simp] theorem setLine_enable_result (v : Level) : (setLine .enable v s).result = s.result := rfl

@[simp] theorem setLine_cmdSel_lastStatus (v : Level) : (setLine .cmdSel v s).lastStatus = s.lastStatus := rfl
@[simp] theorem setLine_cmdSel_pending (v : Level) : (setLine .cmdSel v s).pending = s.pending := rfl
@[simp] theorem setLine_cmdSel_cmdSel (v : Level) : (setLine .cmdSel v s).cmdSel = v := rfl
@[simp] theorem setLine_cmdSel_enable (v : Level) : (setLine .cmdSel v s).enable = s.enable := rfl
@[simp] theorem setLine_cmdSel_dsmState (v : Level) : (setLine .cmdSel v s).dsmState = s.dsmState := rfl
@[simp] theorem setLine_cmdSel_cache (v : Level) : (setLine .cmdSel v s).cache = s.cache := rfl
@[simp] theorem setLine_cmdSel_cacheValid (v : Level) : (setLine .cmdSel v s).cacheValid = s.cacheValid := rfl
@[simp] theorem setLine_cmdSel_board (v : Level) : (setLine .cmdSel v s).board = s.board := rfl
@[simp] theorem setLine_cmdSel_params (v : Level) : (setLine .cmdSel v s).params = s.params := rfl
@[simp] theorem setLine_cmdSel_env (v : Level) : (setLine .cmdSel v s).env = s.env := rfl
@[simp] theorem setLine_cmdSel_trace (v : Level) : (setLine .cmdSel v s).trace = s.trace ++ [.setLine .cmdSel v] := rfl
@[simp] theorem setLine_cmdSel_requests (v : Level) : (setLine .cmdSel v s).requests = s.requests := rfl
@[simp] theorem setLine_cmdSel_result (v : Level) : (setLine .cmdSel v s).result = s.result := rfl

@[simp] theorem delay_lastStatus (us : Nat) : (delay us s).lastStatus = s.lastStatus := rfl
@[simp] theorem delay_pending (us : Nat) : (delay us s).pending = s.pending := rfl
@[simp] theorem delay_cmdSel (us : Nat) : (delay us s).cmdSel = s.cmdSel := rfl
@[simp] theorem delay_enable (us : Nat) : (delay us s).enable = s.enable := rfl
@[simp] theorem delay_dsmState (us : Nat) : (delay us s).dsmState = s.dsmState := rfl
@[simp] theorem delay_cache (us : Nat) : (delay us s).cache = s.cache := rfl
@[simp] theorem delay_cacheValid (us : Nat) : (delay us s).cacheValid = s.cacheValid := rfl
@[simp] theorem delay_board (us : Nat) : (delay us s).board = s.board := rfl
@[simp] theorem delay_params (us : Nat) : (delay us s).params = s.params := rfl
@[simp] theorem delay_env (us : Nat) : (delay us s).env = s.env := rfl
@[simp] theorem delay_trace (us : Nat) : (delay us s).trace = s.trace ++ [.delay us] := rfl
@[simp] theorem delay_requests (us : Nat) : (delay us s).requests = s.requests := rfl
@[simp] theorem delay_result (us : Nat) : (delay us s).result = s.result := rfl

@[simp] theorem exchange_lastStatus (tx : List Byte) (a : Option Quad) (e : Env) :
    (exchange tx a e s).1.lastStatus = s.lastStatus := rfl
@[simp] theorem exchange_pending (tx : List Byte) (a : Option Quad) (e : Env) :
    (exchange tx a e s).1.pending = s.pending := rfl
@[simp] theorem exchange_cmdSel (tx : List Byte) (a : Option Quad) (e : Env) :
    (exchange tx a e s).1.cmdSel = s.cmdSel := rfl
@[simp] theorem exchange_enable (tx : List Byte) (a : Option Quad) (e : Env) :
    (exchange tx a e s).1.enable = s.enable := rfl
@[simp] theorem exchange_dsmState (tx : List Byte) (a : Option Quad) (e : Env) :
    (exchange tx a e s).1.dsmState = s.dsmState := rfl
@[simp] theorem exchange_cache (tx : List Byte) (a : Option Quad) (e : Env) :
    (exchange tx a e s).1.cache = s.cache := rfl
@[simp] theorem exchange_cacheValid (tx : List Byte) (a : Option Quad) (e : Env) :
    (exchange tx a e s).1.cacheValid = s.cacheValid := rfl
@[simp] theorem exchange_board (tx : List Byte) (a : Option Quad) (e : Env) :
    (exchange tx a e s).1.board = s.board := rfl
@[simp] theorem exchange_params (tx : List Byte) (a : Option Quad) (e : Env) :
    (exchange tx a e s).1.params = s.params := rfl
@[simp] theorem exchange_env (tx : List Byte) (a : Option Quad) (e : Env) :
    (exchange tx a e s).1.env = e := rfl
@[simp] theorem exchange_trace (tx : List Byte) (a : Option Quad) (e : Env) :
    (exchange tx a e s).1.trace = s.trace ++ [.xfer tx (received a tx.length)] := rfl
@[simp] theorem exchange_requests (tx : List Byte) (a : Option Quad) (e : Env) :
    (exchange tx a e s).1.requests = s.requests := rfl
@[simp] theorem exchange_result (tx : List Byte) (a : Option Quad) (e : Env) :
    (exchange tx a e s).1.result = s.result := rfl
@[simp] theorem exchange_answer (tx : List Byte) (a : Option Quad) (e : Env) : (exchange tx a e s).2 = a := rfl

@[simp] theorem xfer_lastStatus (tx : List Byte) : (xfer tx s).1.lastStatus = s.lastStatus := rfl
@[simp] theorem xfer_pending (tx : List Byte) : (xfer tx s).1.pending = s.pending := rfl
@[simp] theorem xfer_cmdSel (tx : List Byte) : (xfer tx s).1.cmdSel = s.cmdSel := rfl
@[simp] theorem xfer_enable (tx : List Byte) : (xfer tx s).1.enable = s.enable := rfl
@[simp] theorem xfer_dsmState (tx : List Byte) : (xfer tx s).1.dsmState = s.dsmState := rfl
@[simp] theorem xfer_cache (tx : List Byte) : (xfer tx s).1.cache = s.cache := rfl
@[simp] theorem xfer_cacheValid (tx : List Byte) : (xfer tx s).1.cacheValid = s.cacheValid := rfl
@[simp] theorem xfer_board (tx : List Byte) : (xfer tx s).1.board = s.board := rfl
@[simp] theorem xfer_params (tx : List Byte) : (xfer tx s).1.params = s.params := rfl
@[simp] theorem xfer_env (tx : List Byte) : (xfer tx s).1.env = afterXfers s.env 1 := rfl
@[simp] theorem xfer_trace (tx : List Byte) : (xfer tx s).1.trace = s.trace ++ [.xfer tx (received (answerAt s.env 0) tx.length)] := rfl
@[simp] theorem xfer_requests (tx : List Byte) : (xfer tx s).1.requests = s.requests := rfl
@[simp] theorem xfer_result (tx : List Byte) : (xfer tx s).1.result = s.result := rfl
@[simp] theorem xfer_answer (tx : List Byte) : (xfer tx s).2 = answerAt s.env 0 := rfl

@[simp] theorem loadCache_lastStatus (w : Word) : (loadCache w s).lastStatus = s.lastStatus := rfl
@[simp] theorem loadCache_pending (w : Word) : (loadCache w s).pending = s.pending := rfl
@[simp] theorem loadCache_cmdSel (w : Word) : (loadCache w s).cmdSel = s.cmdSel := rfl
@[simp] theorem loadCache_enable (w : Word) : (loadCache w s).enable = s.enable := rfl
@[simp] theorem loadCache_dsmState (w : Word) : (loadCache w s).dsmState = s.dsmState := rfl
@[simp] theorem loadCache_cache (w : Word) : (loadCache w s).cache = unpackStatus w := rfl
@[simp] theorem loadCache_cacheValid (w : Word) : (loadCache w s).cacheValid = true := rfl
@[simp] theorem loadCache_board (w : Word) : (loadCache w s).board = s.board := rfl
@[simp] theorem loadCache_params (w : Word) : (loadCache w s).params = s.params := rfl
@[simp] theorem loadCache_env (w : Word) : (loadCache w s).env = s.env := rfl
@[simp] theorem loadCache_trace (w : Word) : (loadCache w s).trace = s.trace := rfl
@[simp] theorem loadCache_requests (w : Word) : (loadCache w s).requests = s.requests := rfl
@[simp] theorem loadCache_result (w : Word) : (loadCache w s).result = s.result := rfl

@[simp] theorem bypass_lastStatus (bank : Bank) (wr : Bool) : (bypass bank wr s).lastStatus = s.lastStatus := by
  unfold bypass; split <;> rfl
@[simp] theorem bypass_pending (bank : Bank) (wr : Bool) : (bypass bank wr s).pending = s.pending := by
  unfold bypass; split <;> rfl
@[simp] theorem bypass_cmdSel (bank : Bank) (wr : Bool) : (bypass bank wr s).cmdSel = s.cmdSel := by
  unfold bypass; split <;> rfl
@[simp] theorem bypass_enable (bank : Bank) (wr : Bool) : (bypass bank wr s).enable = s.enable := by
  unfold bypass; split <;> rfl
@[simp] theorem bypass_dsmState (bank : Bank) (wr : Bool) : (bypass bank wr s).dsmState = s.dsmState := by
  unfold bypass; split <;> rfl
@[simp] theorem bypass_cache (bank : Bank) (wr : Bool) : (bypass bank wr s).cache = s.cache := by
  unfold bypass; split <;> rfl
theorem bypass_cacheValid (bank : Bank) (wr : Bool) :
    (bypass bank wr s).cacheValid = if wr ∧ bank = 0 then false else s.cacheValid := by
  unfold bypass; split <;> rfl
@[simp] theorem bypass_board (bank : Bank) (wr : Bool) : (bypass bank wr s).board = s.board := by
  unfold bypass; split <;> rfl
@[simp] theorem bypass_params (bank : Bank) (wr : Bool) : (bypass bank wr s).params = s.params := by
  unfold bypass; split <;> rfl
@[simp] theorem bypass_env (bank : Bank) (wr : Bool) : (bypass bank wr s).env = s.env := by
  unfold bypass; split <;> rfl
@[simp] theorem bypass_trace (bank : Bank) (wr : Bool) : (bypass bank wr s).trace = s.trace := by
  unfold bypass; split <;> rfl
@[simp] theorem bypass_requests (bank : Bank) (wr : Bool) : (bypass bank wr s).requests = s.requests := by
  unfold bypass; split <;> rfl
@[simp] theorem bypass_result (bank : Bank) (wr : Bool) : (bypass bank wr s).result = s.result := by
  unfold bypass; split <;> rfl

end Sys2Proof.Machine
end

