-- ==== Sys2Proof/Laws/Ops.lean ====
section
/-! SUPPORT. What each shared operation can do, said once: the environment's answers, the command phase, the data
phases, the register transactions, the gates and the forced re-read. -/

namespace Sys2Proof.Machine

/-! ### Answers -/

@[simp] theorem afterXfers_zero (e : Env) : afterXfers e 0 = e := rfl

@[simp] theorem afterXfers_afterXfers (e : Env) (j k : Nat) :
    afterXfers (afterXfers e j) k = afterXfers e (j + k) := by
  simp [afterXfers, List.drop_drop, Nat.add_assoc]

@[simp] theorem answerAt_afterXfers (e : Env) (j k : Nat) :
    answerAt (afterXfers e j) k = answerAt e (j + k) := by
  simp [answerAt, afterXfers, Nat.add_assoc]

@[simp] theorem xferCount_afterXfers (e : Env) (k : Nat) : (afterXfers e k).xferCount = e.xferCount + k := rfl

@[simp] theorem readCount_afterXfers (e : Env) (k : Nat) : (afterXfers e k).readCount = e.readCount := rfl

@[simp] theorem received_none (n : Nat) : received none n = none := rfl

theorem received_length {a : Option Quad} {n : Nat} {r : List Byte} (hn : n ≤ 4) (h : r ∈ received a n) :
    r.length = n := by
  cases a with
  | none => cases h
  | some q =>
    simp only [received, Option.map_some, Option.mem_def, Option.some.injEq] at h
    subst h
    simp [quadBytes, hn]

/-! ### The command phase (R121) -/

theorem writeCommand_invalidBank {bank : Bank} {wr n : Bool} {s : State} (h : bankValid bank = false) :
    writeCommand bank wr n s = (s, .error .invalidParameter) := by
  simp [writeCommand, h]

theorem writeCommand_failed {bank : Bank} {wr n : Bool} {s : State} (h : bankValid bank = true)
    (ha : answerAt s.env 0 = none) :
    writeCommand bank wr n s =
      ({ s with
          pending := none
          cmdSel := .deasserted
          env := afterXfers s.env 1
          trace := s.trace ++ commandEvents bank wr n none }, .error .transportError) := by
  simp only [writeCommand, h, if_true, xfer_answer, setLine_cmdSel_env, ha]
  exact congrArg (·, _) (by ext1 <;> simp [commandEvents, ha])

theorem writeCommand_answered {bank : Bank} {wr n : Bool} {s : State} {q : Quad} (h : bankValid bank = true)
    (ha : answerAt s.env 0 = some q) :
    writeCommand bank wr n s = (afterCommand bank wr n q s, .ok (commStatusOf s.params q.b0)) := by
  simp only [writeCommand, h, if_true, xfer_answer, setLine_cmdSel_env, ha]
  exact congrArg (·, _) (by ext1 <;> simp [commandEvents, afterCommand, ha])

/-! ### The data phases (R123 to R126) -/

theorem sendData32_eq (w : Word) (s : State) :
    sendData32 w s = (afterData (quadBytes (data32wBytes w)) (answerAt s.env 0) s, (answerAt s.env 0).map fun _ => ()) :=
  rfl

theorem receiveData32_eq (s : State) :
    receiveData32 s = (afterData (fill32 s.params) (answerAt s.env 0) s, (answerAt s.env 0).map data32rWord) := rfl

theorem sendData8_eq (b : Byte) (s : State) :
    sendData8 b s = (afterData [b] (answerAt s.env 0) s, (answerAt s.env 0).map fun _ => ()) := rfl

theorem receiveData8_eq (s : State) :
    receiveData8 s = (afterData [s.params.txFill] (answerAt s.env 0) s, (answerAt s.env 0).map Quad.b0) := rfl

/-! ### Register transactions (R130) -/

variable {α : Type} {bank : Bank} {wr n : Bool} {phase : State → State × Option α} {s : State}

theorem transact_invalidBank (h : bankValid bank = false) :
    transact bank wr n phase s = (s, .error .invalidParameter) := by
  simp [transact, writeCommand_invalidBank h, raise]

theorem transact_failedCommand (h : bankValid bank = true) (ha : answerAt s.env 0 = none) :
    transact bank wr n phase s =
      ({ s with
          pending := none
          cmdSel := .deasserted
          env := afterXfers s.env 1
          trace := s.trace ++ commandEvents bank wr n none }, .error .communicationError) := by
  simp [transact, writeCommand_failed h ha, raise]

theorem transact_errorStatus {q : Quad} (h : bankValid bank = true) (ha : answerAt s.env 0 = some q)
    (hq : q.b0 = s.params.commErrCode) :
    transact bank wr n phase s =
      ((afterCommand bank wr n q s).withPending none, .error .communicationError) := by
  simp [transact, writeCommand_answered h ha, raise, commStatusOf, commError, hq]

/-- With a status byte that is no error the transaction is its data phase after its command phase. -/
theorem transact_dataPhase {q : Quad} (h : bankValid bank = true) (ha : statusOkAt s 0 q) :
    transact bank wr n phase s =
      ((phase (afterCommand bank wr n q s)).1,
        match (phase (afterCommand bank wr n q s)).2 with
        | none => .error .communicationError
        | some a => .ok a) := by
  have hc : (commStatusOf s.params q.b0).commError = false := by
    simp [commStatusOf, commError, ha.2]
  simp only [transact, writeCommand_answered h ha.1, hc]
  cases (phase (afterCommand bank wr n q s)).2 <;> rfl

/-- Everything a register transaction can do. -/
theorem transact_cases (bank : Bank) (wr n : Bool) (phase : State → State × Option α) (s : State) :
    (bankValid bank = false ∧ transact bank wr n phase s = (s, .error .invalidParameter)) ∨
    (bankValid bank = true ∧ answerAt s.env 0 = none ∧
      transact bank wr n phase s =
        ({ s with
            pending := none
            cmdSel := .deasserted
            env := afterXfers s.env 1
            trace := s.trace ++ commandEvents bank wr n none }, .error .communicationError)) ∨
    (∃ q, bankValid bank = true ∧ answerAt s.env 0 = some q ∧ q.b0 = s.params.commErrCode ∧
      transact bank wr n phase s = ((afterCommand bank wr n q s).withPending none, .error .communicationError)) ∨
    (∃ q, bankValid bank = true ∧ statusOkAt s 0 q ∧
      transact bank wr n phase s =
        ((phase (afterCommand bank wr n q s)).1,
          match (phase (afterCommand bank wr n q s)).2 with
          | none => .error .communicationError
          | some a => .ok a)) := by
  cases hb : bankValid bank with
  | false => exact .inl ⟨rfl, transact_invalidBank hb⟩
  | true =>
    cases ha : answerAt s.env 0 with
    | none => exact .inr (.inl ⟨rfl, rfl, transact_failedCommand hb ha⟩)
    | some q =>
      by_cases hq : q.b0 = s.params.commErrCode
      · exact .inr (.inr (.inl ⟨q, rfl, rfl, hq, transact_errorStatus hb ha hq⟩))
      · exact .inr (.inr (.inr ⟨q, rfl, ⟨ha, hq⟩, transact_dataPhase hb ⟨ha, hq⟩⟩))

theorem afterData_afterCommand (bank : Bank) (wr n : Bool) (q : Quad) (tx : List Byte) (a : Option Quad) (s : State) :
    afterData tx a (afterCommand bank wr n q s) = afterTransaction bank wr n q tx a s := by
  simp [afterData, afterCommand, afterTransaction]

theorem writeReg32_answered {w : Word} {q : Quad} (h : bankValid bank = true) (ha : statusOkAt s 0 q) :
    writeReg32 bank w s =
      (afterTransaction bank true false q (quadBytes (data32wBytes w)) (answerAt s.env 1) s,
        match answerAt s.env 1 with
        | none => .error .communicationError
        | some _ => .ok ()) := by
  rw [writeReg32, transact_dataPhase h ha]
  simp only [sendData32_eq, afterData_afterCommand]
  simp only [afterCommand, answerAt_afterXfers]
  cases answerAt s.env 1 <;> rfl

theorem readReg32_answered {q : Quad} (h : bankValid bank = true) (ha : statusOkAt s 0 q) :
    readReg32 bank s =
      (afterTransaction bank false false q (fill32 s.params) (answerAt s.env 1) s,
        match answerAt s.env 1 with
        | none => .error .communicationError
        | some d => .ok (data32rWord d)) := by
  rw [readReg32, transact_dataPhase h ha]
  simp only [receiveData32_eq, afterData_afterCommand]
  simp only [afterCommand, answerAt_afterXfers]
  cases answerAt s.env 1 <;> rfl

theorem writeReg8_answered {b : Byte} {q : Quad} (h : bankValid bank = true) (ha : statusOkAt s 0 q) :
    writeReg8 bank b s =
      (afterTransaction bank true true q [b] (answerAt s.env 1) s,
        match answerAt s.env 1 with
        | none => .error .communicationError
        | some _ => .ok ()) := by
  rw [writeReg8, transact_dataPhase h ha]
  simp only [sendData8_eq, afterData_afterCommand]
  simp only [afterCommand, answerAt_afterXfers]
  cases answerAt s.env 1 <;> rfl

theorem readReg8_answered {q : Quad} (h : bankValid bank = true) (ha : statusOkAt s 0 q) :
    readReg8 bank s =
      (afterTransaction bank false true q [s.params.txFill] (answerAt s.env 1) s,
        match answerAt s.env 1 with
        | none => .error .communicationError
        | some d => .ok d.b0) := by
  rw [readReg8, transact_dataPhase h ha]
  simp only [receiveData8_eq, afterData_afterCommand]
  simp only [afterCommand, answerAt_afterXfers]
  cases answerAt s.env 1 <;> rfl

/-! ### Failed transactions (R271, R272) -/

/-- A failed transaction answers `CommunicationError`, for a data phase that sends `tx`. -/
theorem transact_fails {t : State} {tx : List Byte} {f : Quad → α} (h : bankValid bank = true)
    (hp : ∀ u : State, u.params = s.params → phase u = (afterData tx (answerAt u.env 0) u, (answerAt u.env 0).map f))
    (hf : failedTransfer bank wr n tx s t) : transact bank wr n phase s = (t, .error .communicationError) := by
  obtain ⟨ha, rfl⟩ | ⟨q, ha, hq, rfl⟩ | ⟨q, hq, ha, rfl⟩ := hf
  · exact transact_failedCommand h ha
  · exact transact_errorStatus h ha hq
  · have ha' : answerAt (afterCommand bank wr n q s).env 0 = none := by simp [afterCommand, ha]
    rw [transact_dataPhase h hq, hp (afterCommand bank wr n q s) rfl, afterData_afterCommand, ha']
    rfl

theorem writeReg32_fails {t : State} {w : Word} (h : bankValid bank = true)
    (hf : failedTransfer bank true false (quadBytes (data32wBytes w)) s t) :
    writeReg32 bank w s = (t, .error .communicationError) :=
  transact_fails h (fun u _ => sendData32_eq w u) hf

theorem readReg32_fails {t : State} (h : bankValid bank = true)
    (hf : failedTransfer bank false false (fill32 s.params) s t) :
    readReg32 bank s = (t, .error .communicationError) :=
  transact_fails h (fun u hu => hu ▸ receiveData32_eq u) hf

theorem writeReg8_fails {t : State} {b : Byte} (h : bankValid bank = true)
    (hf : failedTransfer bank true true [b] s t) : writeReg8 bank b s = (t, .error .communicationError) :=
  transact_fails h (fun u _ => sendData8_eq b u) hf

/-! ### Gates and sequencing -/

@[simp] theorem whenActive_active (h : s.dsmState = .active) (k : State → State × Except ErrorKind α) :
    whenActive k s = k s := by simp [whenActive, h]

@[simp] theorem whenActive_uninitialized (h : s.dsmState = .uninitialized) (k : State → State × Except ErrorKind α) :
    whenActive k s = raise s.params.errNotActive s := by simp [whenActive, h]

@[simp] theorem whenIndex_true (k : State → State × Except ErrorKind α) : whenIndex true k = k := rfl

@[simp] theorem whenIndex_false (k : State → State × Except ErrorKind α) :
    whenIndex false k s = raise .invalidParameter s := rfl

@[simp] theorem andThen_error {β : Type} (k : ErrorKind) (s : State) (f : α → State → State × Except ErrorKind β) :
    andThen (s, .error k) f = (s, .error k) := rfl

@[simp] theorem andThen_ok {β : Type} (a : α) (s : State) (f : α → State → State × Except ErrorKind β) :
    andThen (s, .ok a) f = f a s := rfl

theorem ensureCache_valid (h : s.cacheValid = true) : ensureCache s = (s, .ok ()) := by simp [ensureCache, h, done]

theorem ensureCache_reread {q d : Quad} (h : s.cacheValid = false) (hq : statusOkAt s 0 q)
    (hd : answerAt s.env 1 = some d) : ensureCache s = (afterReread q d s, .ok ()) := by
  have hb : bankValid 0 = true := rfl
  simp only [ensureCache, h, readReg32_answered hb hq, hd]
  rfl

/-- A forced re-read that fails is the failed transfer, and nothing else. -/
theorem ensureCache_fails {t : State} (h : s.cacheValid = false)
    (hf : failedTransfer 0 false false (fill32 s.params) s t) : ensureCache s = (t, .error .communicationError) := by
  rw [ensureCache, h, readReg32_fails rfl hf]
  rfl

/-! ### Attempts of `initialize` (R221) -/

theorem readReg32_ok {q d : Quad} (h : bankValid bank = true) (hq : statusOkAt s 0 q) (hd : answerAt s.env 1 = some d) :
    readReg32 bank s = (afterTransaction bank false false q (fill32 s.params) (some d) s, .ok (data32rWord d)) := by
  rw [readReg32_answered h hq, hd]

theorem writeReg32_ok {w : Word} {q a : Quad} (h : bankValid bank = true) (hq : statusOkAt s 0 q)
    (ha : answerAt s.env 1 = some a) :
    writeReg32 bank w s = (afterTransaction bank true false q (quadBytes (data32wBytes w)) (some a) s, .ok ()) := by
  rw [writeReg32_answered h hq, ha]

theorem initAttempt_fails {t : State} (h : attemptFails s t) : initAttempt s = (t, .error .communicationError) := by
  obtain hf | ⟨q, d, s1, hq, hd, rfl, hf | ⟨q', a, s2, hq', ha, rfl, hf⟩⟩ := h
  · rw [initAttempt, readReg32_fails rfl hf, andThen_error]
  · rw [initAttempt, readReg32_ok rfl hq hd, andThen_ok, writeReg32_fails rfl hf, andThen_error]
  · rw [initAttempt, readReg32_ok rfl hq hd, andThen_ok, writeReg32_ok rfl hq' ha, andThen_ok, readReg32_fails rfl hf]

theorem initAttempt_completes {w : Word} {t : State} (h : attemptCompletes s w t) : initAttempt s = (t, .ok w) := by
  obtain ⟨q, d, s1, q', a, s2, q'', d', hq, hd, rfl, hq', ha, rfl, hq'', hd', rfl, rfl⟩ := h
  rw [initAttempt, readReg32_ok rfl hq hd, andThen_ok, writeReg32_ok rfl hq' ha, andThen_ok, readReg32_ok rfl hq'' hd']
  rfl

/-- A transaction is answered in both phases or fails. -/
theorem answered_or_fails (bank : Bank) (wr n : Bool) (tx : List Byte) (s : State) :
    (∃ q d, statusOkAt s 0 q ∧ answerAt s.env 1 = some d) ∨ ∃ t, failedTransfer bank wr n tx s t := by
  cases ha : answerAt s.env 0 with
  | none => exact .inr ⟨_, .inl ⟨ha, rfl⟩⟩
  | some q =>
    by_cases hq : q.b0 = s.params.commErrCode
    · exact .inr ⟨_, .inr (.inl ⟨q, ha, hq, rfl⟩)⟩
    · cases hd : answerAt s.env 1 with
      | none => exact .inr ⟨_, .inr (.inr ⟨q, ⟨ha, hq⟩, hd, rfl⟩)⟩
      | some d => exact .inl ⟨q, d, ⟨ha, hq⟩, rfl⟩

/-- Everything an attempt can do. -/
theorem attempt_cases (s : State) : (∃ t, attemptFails s t) ∨ ∃ w t, attemptCompletes s w t := by
  obtain ⟨q, d, hq, hd⟩ | ⟨t, hf⟩ := answered_or_fails 0 false false (fill32 s.params) s
  · obtain ⟨q', a, hq', ha⟩ | ⟨t, hf⟩ := answered_or_fails 0 true false
      (quadBytes (data32wBytes (initWord (data32rWord d)))) (afterTransaction 0 false false q (fill32 s.params) (some d) s)
    · obtain ⟨q'', d', hq'', hd'⟩ | ⟨t, hf⟩ := answered_or_fails 0 false false (fill32 s.params)
        (afterTransaction 0 true false q' (quadBytes (data32wBytes (initWord (data32rWord d)))) (some a)
          (afterTransaction 0 false false q (fill32 s.params) (some d) s))
      · exact .inr ⟨_, _, q, d, _, q', a, _, q'', d', hq, hd, rfl, hq', ha, rfl, hq'', hd', rfl, rfl⟩
      · exact .inl ⟨t, .inr ⟨q, d, _, hq, hd, rfl, .inr ⟨q', a, _, hq', ha, rfl, hf⟩⟩⟩
    · exact .inl ⟨t, .inr ⟨q, d, _, hq, hd, rfl, .inl hf⟩⟩
  · exact .inl ⟨t, .inl hf⟩

/-- A failed attempt is followed at once by the next. -/
theorem initLoop_fails {k : Nat} {t : State} (h : attemptFails s t) : initLoop (k + 1) s = initLoop k t := by
  rw [initLoop, initAttempt_fails h]

theorem initLoop_completes {k : Nat} {w : Word} {t : State} (h : attemptCompletes s w t) :
    initLoop (k + 1) s = ((loadCache w t).withDsm .active, .ok ()) := by
  rw [initLoop, initAttempt_completes h]
  rfl

end Sys2Proof.Machine
end

