-- ==== Sys2Proof/Laws/PerInstr.lean ====
section
/-! SUPPORT. Statements about every operation as syntax, one lemma per constructor of `Instr`. FixedBits: the frame an
operation is written as has the format of its row of spec/opcode_table.json, and its first byte has the row's fixed bits
(its "mask" and "match"; a row without them fixes none). -/

namespace Sys2Proof.Laws

/-- The format, the mask and the match of a row. -/
structure Row where
  format : Format
  mask   : Byte
  value  : Byte

/-- The row of each operation, as spec/opcode_table.json gives it. -/
def rowOf : Instr → Row
  | .rd32 _ => ⟨.cmd8, 0xE1, 0x00⟩
  | .wr32 _ _ => ⟨.cmd8, 0xE1, 0x80⟩
  | .rd8 _ => ⟨.cmd8, 0xE1, 0x01⟩
  | .wr8 _ _ => ⟨.cmd8, 0xE1, 0x81⟩
  | .stat8 _ => ⟨.stat8, 0x00, 0x00⟩
  | .data32w _ => ⟨.data32w, 0x00, 0x00⟩
  | .data32r _ => ⟨.data32r, 0x00, 0x00⟩
  | .data8w _ => ⟨.data8w, 0x00, 0x00⟩
  | .data8r _ => ⟨.data8r, 0x00, 0x00⟩
  | .regStatus _ => ⟨.regStatus, 0x00, 0x00⟩
  | .regCfgCh _ => ⟨.regCfgCh, 0x00, 0x00⟩
  | .regFault _ => ⟨.regFault, 0x00, 0x00⟩
  | .regCfgDpm _ => ⟨.regCfgDpm, 0x00, 0x00⟩
  | .writeCommand _ _ _ => ⟨.hostOp, 0xFF, 0x01⟩
  | .writeData32 _ => ⟨.hostOp, 0xFF, 0x02⟩
  | .readData32 => ⟨.hostOp, 0xFF, 0x03⟩
  | .writeData8 _ => ⟨.hostOp, 0xFF, 0x04⟩
  | .readData8 => ⟨.hostOp, 0xFF, 0x05⟩
  | .getLastStatus => ⟨.hostOp, 0xFF, 0x06⟩
  | .writeReg32 _ _ => ⟨.hostOp, 0xFF, 0x10⟩
  | .readReg32 _ => ⟨.hostOp, 0xFF, 0x11⟩
  | .writeReg8 _ _ => ⟨.hostOp, 0xFF, 0x12⟩
  | .readReg8 _ => ⟨.hostOp, 0xFF, 0x13⟩
  | .packStatus _ => ⟨.hostOp, 0xFF, 0x20⟩
  | .unpackStatus _ => ⟨.hostOp, 0xFF, 0x21⟩
  | .packChannel _ => ⟨.hostOp, 0xFF, 0x22⟩
  | .unpackChannel _ => ⟨.hostOp, 0xFF, 0x23⟩
  | .packFault _ => ⟨.hostOp, 0xFF, 0x24⟩
  | .unpackFault _ => ⟨.hostOp, 0xFF, 0x25⟩
  | .packDpm _ => ⟨.hostOp, 0xFF, 0x26⟩
  | .unpackDpm _ => ⟨.hostOp, 0xFF, 0x27⟩
  | .encodeChannel _ _ _ => ⟨.hostOp, 0xFF, 0x28⟩
  | .decodeChannel _ _ => ⟨.hostOp, 0xFF, 0x29⟩
  | .chopKhz _ _ => ⟨.hostOp, 0xFF, 0x30⟩
  | .codeFromMa _ _ => ⟨.hostOp, 0xFF, 0x31⟩
  | .maFromCode _ _ => ⟨.hostOp, 0xFF, 0x32⟩
  | .codeFromDuty _ _ _ _ => ⟨.hostOp, 0xFF, 0x33⟩
  | .dutyFromCode _ => ⟨.hostOp, 0xFF, 0x34⟩
  | .dutyLimits _ _ _ => ⟨.hostOp, 0xFF, 0x35⟩
  | .codeFromMs _ _ => ⟨.hostOp, 0xFF, 0x36⟩
  | .msFromCode _ _ => ⟨.hostOp, 0xFF, 0x37⟩
  | .dutyCodeLinear _ => ⟨.hostOp, 0xFF, 0x38⟩
  | .quantizeChannel _ _ _ => ⟨.hostOp, 0xFF, 0x39⟩
  | .dequantizeChannel _ _ => ⟨.hostOp, 0xFF, 0x3A⟩
  | .initializeDevice => ⟨.hostOp, 0xFF, 0x40⟩
  | .deinitialize => ⟨.hostOp, 0xFF, 0x41⟩
  | .configureChannel _ _ => ⟨.hostOp, 0xFF, 0x42⟩
  | .getChannelConfig _ => ⟨.hostOp, 0xFF, 0x43⟩
  | .setChannelsOn _ => ⟨.hostOp, 0xFF, 0x44⟩
  | .setChannelEnabled _ _ => ⟨.hostOp, 0xFF, 0x45⟩
  | .setPairMode _ _ => ⟨.hostOp, 0xFF, 0x46⟩
  | .readStatus => ⟨.hostOp, 0xFF, 0x47⟩
  | .readFaults => ⟨.hostOp, 0xFF, 0x48⟩
  | .getDpmConfig => ⟨.hostOp, 0xFF, 0x49⟩
  | .setDpmConfig _ => ⟨.hostOp, 0xFF, 0x4A⟩
  | .setBoardScale _ => ⟨.hostOp, 0xFF, 0x4B⟩
  | .rawWriteRegister _ _ => ⟨.hostOp, 0xFF, 0x4C⟩
  | .rawReadRegister _ => ⟨.hostOp, 0xFF, 0x4D⟩
  | .readFaultLine => ⟨.hostOp, 0xFF, 0x4E⟩
  | .validateChannel _ _ => ⟨.hostOp, 0xFF, 0x4F⟩
  | .ensureCache => ⟨.hostOp, 0xFF, 0x50⟩

/-- A command byte has the fixed bits of its row (R96). -/
theorem commandByte_fixed (bank : Bank) (isWrite narrow : Bool) :
    Machine.commandByte bank isWrite narrow &&& 0xE1#8 =
      (if isWrite then 0x80#8 else 0x00#8) ||| (if narrow then 0x01#8 else 0x00#8) := by
  revert bank isWrite narrow
  decide

theorem and_ones (b : Byte) : b &&& 0xFF#8 = b := BitVec.and_allOnes

namespace FixedBits

/-- The frame of `i` has the format and the fixed bits of its row. -/
def Statement (i : Instr) : Prop :=
  (encode i).format = (rowOf i).format ∧
    ∃ b, (encode i).bytes.head? = some b ∧ b &&& (rowOf i).mask = (rowOf i).value

theorem rd32 (bank : Bank) : Statement (.rd32 bank) := ⟨rfl, _, rfl, commandByte_fixed bank false false⟩

theorem wr32 (bank : Bank) (w : Word) : Statement (.wr32 bank w) := ⟨rfl, _, rfl, commandByte_fixed bank true false⟩

theorem rd8 (bank : Bank) : Statement (.rd8 bank) := ⟨rfl, _, rfl, commandByte_fixed bank false true⟩

theorem wr8 (bank : Bank) (b : Byte) : Statement (.wr8 bank b) := ⟨rfl, _, rfl, commandByte_fixed bank true true⟩

theorem stat8 (b : Byte) : Statement (.stat8 b) := ⟨rfl, _, rfl, BitVec.and_zero⟩

theorem data32w (q : Quad) : Statement (.data32w q) := ⟨rfl, _, rfl, BitVec.and_zero⟩

theorem data32r (q : Quad) : Statement (.data32r q) := ⟨rfl, _, rfl, BitVec.and_zero⟩

theorem data8w (b : Byte) : Statement (.data8w b) := ⟨rfl, _, rfl, BitVec.and_zero⟩

theorem data8r (b : Byte) : Statement (.data8r b) := ⟨rfl, _, rfl, BitVec.and_zero⟩

theorem regStatus (w : Word) : Statement (.regStatus w) := ⟨rfl, _, rfl, BitVec.and_zero⟩

theorem regCfgCh (w : Word) : Statement (.regCfgCh w) := ⟨rfl, _, rfl, BitVec.and_zero⟩

theorem regFault (w : Word) : Statement (.regFault w) := ⟨rfl, _, rfl, BitVec.and_zero⟩

theorem regCfgDpm (w : Word) : Statement (.regCfgDpm w) := ⟨rfl, _, rfl, BitVec.and_zero⟩

theorem writeCommand (bank : Bank) (isWrite narrow : Bool) : Statement (.writeCommand bank isWrite narrow) := ⟨rfl, _, rfl, and_ones _⟩

theorem writeData32 (w : Word) : Statement (.writeData32 w) := ⟨rfl, _, rfl, and_ones _⟩

theorem readData32 : Statement (.readData32) := ⟨rfl, _, rfl, and_ones _⟩

theorem writeData8 (b : Byte) : Statement (.writeData8 b) := ⟨rfl, _, rfl, and_ones _⟩

theorem readData8 : Statement (.readData8) := ⟨rfl, _, rfl, and_ones _⟩

theorem getLastStatus : Statement (.getLastStatus) := ⟨rfl, _, rfl, and_ones _⟩

theorem writeReg32 (bank : Bank) (w : Word) : Statement (.writeReg32 bank w) := ⟨rfl, _, rfl, and_ones _⟩

theorem readReg32 (bank : Bank) : Statement (.readReg32 bank) := ⟨rfl, _, rfl, and_ones _⟩

theorem writeReg8 (bank : Bank) (b : Byte) : Statement (.writeReg8 bank b) := ⟨rfl, _, rfl, and_ones _⟩

theorem readReg8 (bank : Bank) : Statement (.readReg8 bank) := ⟨rfl, _, rfl, and_ones _⟩

theorem packStatus (x : StatusWord) : Statement (.packStatus x) := ⟨rfl, _, rfl, and_ones _⟩

theorem unpackStatus (w : Word) : Statement (.unpackStatus w) := ⟨rfl, _, rfl, and_ones _⟩

theorem packChannel (r : ChannelRaw) : Statement (.packChannel r) := ⟨rfl, _, rfl, and_ones _⟩

theorem unpackChannel (w : Word) : Statement (.unpackChannel w) := ⟨rfl, _, rfl, and_ones _⟩

theorem packFault (f : FaultWord) : Statement (.packFault f) := ⟨rfl, _, rfl, and_ones _⟩

theorem unpackFault (w : Word) : Statement (.unpackFault w) := ⟨rfl, _, rfl, and_ones _⟩

theorem packDpm (d : DpmConfig) : Statement (.packDpm d) := ⟨rfl, _, rfl, and_ones _⟩

theorem unpackDpm (w : Word) : Statement (.unpackDpm w) := ⟨rfl, _, rfl, and_ones _⟩

theorem encodeChannel (cfg : ChannelConfig) (ctx : ConvContext) (board : BoardScale) : Statement (.encodeChannel cfg ctx board) := ⟨rfl, _, rfl, and_ones _⟩

theorem decodeChannel (w : Word) (ctx : ConvContext) : Statement (.decodeChannel w ctx) := ⟨rfl, _, rfl, and_ones _⟩

theorem chopKhz (base : ClockBase) (sel : Sel2) : Statement (.chopKhz base sel) := ⟨rfl, _, rfl, and_ones _⟩

theorem codeFromMa (full ma : EngValue) : Statement (.codeFromMa full ma) := ⟨rfl, _, rfl, and_ones _⟩

theorem maFromCode (full : Rat) (code : Code7) : Statement (.maFromCode full code) := ⟨rfl, _, rfl, and_ones _⟩

theorem codeFromDuty (pct : EngValue) (base : ClockBase) (sel : Sel2) (src : Bool) : Statement (.codeFromDuty pct base sel src) := ⟨rfl, _, rfl, and_ones _⟩

theorem dutyFromCode (code : Code7) : Statement (.dutyFromCode code) := ⟨rfl, _, rfl, and_ones _⟩

theorem dutyLimits (base : ClockBase) (sel : Sel2) (src : Bool) : Statement (.dutyLimits base sel src) := ⟨rfl, _, rfl, and_ones _⟩

theorem codeFromMs (ms : EngValue) (khz : Nat) : Statement (.codeFromMs ms khz) := ⟨rfl, _, rfl, and_ones _⟩

theorem msFromCode (code : Code8) (khz : Nat) : Statement (.msFromCode code khz) := ⟨rfl, _, rfl, and_ones _⟩

theorem dutyCodeLinear (pct : Rat) : Statement (.dutyCodeLinear pct) := ⟨rfl, _, rfl, and_ones _⟩

theorem quantizeChannel (cfg : ChannelConfig) (ctx : ConvContext) (board : BoardScale) : Statement (.quantizeChannel cfg ctx board) := ⟨rfl, _, rfl, and_ones _⟩

theorem dequantizeChannel (r : ChannelRaw) (ctx : ConvContext) : Statement (.dequantizeChannel r ctx) := ⟨rfl, _, rfl, and_ones _⟩

theorem initializeDevice : Statement (.initializeDevice) := ⟨rfl, _, rfl, and_ones _⟩

theorem deinitialize : Statement (.deinitialize) := ⟨rfl, _, rfl, and_ones _⟩

theorem configureChannel (ch : Nat) (cfg : ChannelConfig) : Statement (.configureChannel ch cfg) := ⟨rfl, _, rfl, and_ones _⟩

theorem getChannelConfig (ch : Nat) : Statement (.getChannelConfig ch) := ⟨rfl, _, rfl, and_ones _⟩

theorem setChannelsOn (mask : Byte) : Statement (.setChannelsOn mask) := ⟨rfl, _, rfl, and_ones _⟩

theorem setChannelEnabled (ch : Nat) (on : Bool) : Statement (.setChannelEnabled ch on) := ⟨rfl, _, rfl, and_ones _⟩

theorem setPairMode (pair : Nat) (mode : PairMode) : Statement (.setPairMode pair mode) := ⟨rfl, _, rfl, and_ones _⟩

theorem readStatus : Statement (.readStatus) := ⟨rfl, _, rfl, and_ones _⟩

theorem readFaults : Statement (.readFaults) := ⟨rfl, _, rfl, and_ones _⟩

theorem getDpmConfig : Statement (.getDpmConfig) := ⟨rfl, _, rfl, and_ones _⟩

theorem setDpmConfig (d : DpmConfig) : Statement (.setDpmConfig d) := ⟨rfl, _, rfl, and_ones _⟩

theorem setBoardScale (b : BoardRequest) : Statement (.setBoardScale b) := ⟨rfl, _, rfl, and_ones _⟩

theorem rawWriteRegister (bank : Bank) (w : Word) : Statement (.rawWriteRegister bank w) := ⟨rfl, _, rfl, and_ones _⟩

theorem rawReadRegister (bank : Bank) : Statement (.rawReadRegister bank) := ⟨rfl, _, rfl, and_ones _⟩

theorem readFaultLine : Statement (.readFaultLine) := ⟨rfl, _, rfl, and_ones _⟩

theorem validateChannel (cfg : ChannelConfig) (board : BoardScale) : Statement (.validateChannel cfg board) := ⟨rfl, _, rfl, and_ones _⟩

theorem ensureCache : Statement (.ensureCache) := ⟨rfl, _, rfl, and_ones _⟩

end FixedBits

end Sys2Proof.Laws
end

