-- ==== Sys2Proof/Tests/Slice0.lean ====
section
/-! SUPPORT. Own tests: the well-formedness smoke test, one word per constructor for the decoder, vectors of
95_test_vectors.md run for one step, and a witness for the hypotheses of each statement that has any. Expected values
are the spec's; where a byte is the model's own port layout (log 3) the comment of the section says so. -/

namespace Sys2Proof.Tests

open Sys2Proof.Machine

-- The tests are elaborated one after another: many kernel evaluations side by side take a thread each.
set_option Elab.async false

/-! ### Well-formedness: one refused term per check -/

/-- A conversion context with a negative full scale. -/
def badContext : ConvContext := ⟨-1, .base100k⟩

/-- A context of 1000 mA on the 100 kHz base. -/
def context1000 : ConvContext := ⟨1000, .base100k⟩

/-- A board of 1000 mA without ceilings. -/
def board1000 : BoardScale := ⟨1000, none, none⟩

/-- The channel configuration of S6 and Q1. -/
def channelQ1 : ChannelConfig :=
  { halfScale := false, holdSetpoint := .finite 315, trigger := .spi, hitSetpoint := .finite 630,
    hitTimeMs := .finite 10, driveMode := .current, sideMode := .lowSide, chopSel := 0, slewRateControl := false,
    openLoadEn := false, plungerDetectEn := false, hitCheckEn := false }

theorem test_wellFormed_accepts : (Instr.encodeChannel channelQ1 context1000 board1000).wellFormed = true := by
  decide +kernel
theorem test_wellFormed_refuses_context_encodeChannel :
    (Instr.encodeChannel channelQ1 badContext board1000).wellFormed = false := by decide +kernel
theorem test_wellFormed_refuses_board_encodeChannel :
    (Instr.encodeChannel channelQ1 context1000 ⟨-1, none, none⟩).wellFormed = false := by decide +kernel
theorem test_wellFormed_refuses_context_decodeChannel : (Instr.decodeChannel 0 badContext).wellFormed = false := by
  decide +kernel
theorem test_wellFormed_refuses_maFromCode : (Instr.maFromCode (-1) 0).wellFormed = false := by decide +kernel
theorem test_wellFormed_refuses_codeFromMs : (Instr.codeFromMs (.finite 1) 30).wellFormed = false := by decide
theorem test_wellFormed_refuses_msFromCode : (Instr.msFromCode 1 27).wellFormed = false := by decide
theorem test_wellFormed_refuses_context_quantizeChannel :
    (Instr.quantizeChannel channelQ1 badContext board1000).wellFormed = false := by decide +kernel
theorem test_wellFormed_refuses_board_quantizeChannel :
    (Instr.quantizeChannel channelQ1 context1000 ⟨-1, none, none⟩).wellFormed = false := by decide +kernel
theorem test_wellFormed_refuses_context_dequantizeChannel :
    (Instr.dequantizeChannel (unpackChannel 0) badContext).wellFormed = false := by decide +kernel
theorem test_wellFormed_refuses_board_validateChannel :
    (Instr.validateChannel channelQ1 ⟨-1, none, none⟩).wellFormed = false := by decide +kernel
/-- R15: a ceiling is any rational. -/
theorem test_wellFormed_accepts_negativeCeilings :
    (Instr.quantizeChannel channelQ1 context1000 ⟨1000, some (-1), some (-1)⟩).wellFormed = true := by decide +kernel

/-! ### Decoding: one word per constructor

Command bytes bit by bit from R81 (`RW 00 BANK NARROW`) and T1, register words and data frames from R87 to R93, host
identifiers from R99. Operand bytes after a host identifier are the model's (log 3). -/

/-- The decoder on a host request. -/
def onHost (bs : List Byte) : Except DecodeError Instr := decode ⟨.hostOp, bs⟩

theorem test_decode_rd32 : decode ⟨.cmd8, [0b00010010#8]⟩ = .ok (.rd32 9) := by decide
theorem test_decode_wr32 :
    decode ⟨.cmd8, [0b10000010#8, 0x00, 0x06, 0x50, 0x28]⟩ = .ok (.wr32 1 0x28500600) := by decide
theorem test_decode_rd8 : decode ⟨.cmd8, [0b00010101#8]⟩ = .ok (.rd8 10) := by decide
theorem test_decode_wr8 : decode ⟨.cmd8, [0b10000001#8, 0x05]⟩ = .ok (.wr8 0 0x05) := by decide
theorem test_decode_reserved_bit6 : decode ⟨.cmd8, [0b01000010#8]⟩ = .error .invalidReservedBits := by decide
theorem test_decode_reserved_bit5 : decode ⟨.cmd8, [0b10100010#8]⟩ = .error .invalidReservedBits := by decide
theorem test_decode_truncated : decode ⟨.cmd8, [0b10000010#8, 0x00]⟩ = .error .truncated := by decide
theorem test_decode_stat8 : decode ⟨.stat8, [0x04]⟩ = .ok (.stat8 0x04) := by decide
theorem test_decode_data32w :
    decode ⟨.data32w, [0x00, 0x06, 0x50, 0x28]⟩ = .ok (.data32w ⟨0x00, 0x06, 0x50, 0x28⟩) := by decide
theorem test_decode_data32r :
    decode ⟨.data32r, [0x28, 0x50, 0x06, 0x00]⟩ = .ok (.data32r ⟨0x28, 0x50, 0x06, 0x00⟩) := by decide
theorem test_decode_data8w : decode ⟨.data8w, [0xA5]⟩ = .ok (.data8w 0xA5) := by decide
theorem test_decode_data8r : decode ⟨.data8r, [0x5A]⟩ = .ok (.data8r 0x5A) := by decide
theorem test_decode_regStatus : decode ⟨.regStatus, [0x01, 0x02, 0x01, 0x03]⟩ = .ok (.regStatus 0x03010201) := by decide
theorem test_decode_regCfgCh : decode ⟨.regCfgCh, [0x00, 0x06, 0x50, 0x28]⟩ = .ok (.regCfgCh 0x28500600) := by decide
theorem test_decode_regFault : decode ⟨.regFault, [0x00, 0x80, 0x00, 0x01]⟩ = .ok (.regFault 0x01008000) := by decide
theorem test_decode_regCfgDpm : decode ⟨.regCfgDpm, [0x35, 0x40, 0x00, 0x00]⟩ = .ok (.regCfgDpm 0x00004035) := by
  decide
theorem test_decode_writeCommand : onHost [0x01, 9, 1, 0] = .ok (.writeCommand 9 true false) := by decide
theorem test_decode_writeData32 : onHost [0x02, 0x04, 0x03, 0x02, 0x01] = .ok (.writeData32 0x01020304) := by decide
theorem test_decode_readData32 : onHost [0x03] = .ok .readData32 := by decide
theorem test_decode_writeData8 : onHost [0x04, 0xA5] = .ok (.writeData8 0xA5) := by decide
theorem test_decode_readData8 : onHost [0x05] = .ok .readData8 := by decide
theorem test_decode_getLastStatus : onHost [0x06] = .ok .getLastStatus := by decide
theorem test_decode_writeReg32 : onHost [0x10, 10, 1, 0, 0, 0] = .ok (.writeReg32 10 1) := by decide
theorem test_decode_readReg32 : onHost [0x11, 9] = .ok (.readReg32 9) := by decide
theorem test_decode_writeReg8 : onHost [0x12, 0, 0xFF] = .ok (.writeReg8 0 0xFF) := by decide
theorem test_decode_readReg8 : onHost [0x13, 15] = .ok (.readReg8 15) := by decide
theorem test_decode_packStatus : onHost [0x20, 0x01, 0, 0, 0x05] = .ok (.packStatus (unpackStatus 0x05000001)) := by
  decide
theorem test_decode_unpackStatus : onHost [0x21, 2, 0, 0, 0] = .ok (.unpackStatus 2) := by decide
theorem test_decode_packChannel :
    onHost [0x22, 0xF4, 0x0A, 0xF2, 0x26] = .ok (.packChannel (unpackChannel 0x26F20AF4)) := by decide
theorem test_decode_unpackChannel : onHost [0x23, 0x1B, 0xFF, 0x7F, 0x99] = .ok (.unpackChannel 0x997FFF1B) := by decide
theorem test_decode_packFault : onHost [0x24, 0x78, 0x56, 0x34, 0x12] = .ok (.packFault ⟨0x12, 0x34, 0x56, 0x78⟩) := by
  decide
theorem test_decode_unpackFault : onHost [0x25, 0, 0x80, 0, 1] = .ok (.unpackFault 0x01008000) := by decide
theorem test_decode_packDpm : onHost [0x26, 0x35, 0x40, 0, 0] = .ok (.packDpm ⟨64, 3, 5⟩) := by decide
theorem test_decode_unpackDpm : onHost [0x27, 0xFF, 0xFF, 0xFF, 0xFF] = .ok (.unpackDpm 0xFFFFFFFF) := by decide
theorem test_decode_encodeChannel :
    onHost [0x28, 0, 0, 0, 0, 0, 0xEC, 0x09, 0, 0, 0xF6, 0x04, 0, 0, 20, 0, 0xD0, 0x0F, 0, 0, 0xD0, 0x0F, 0, 0, 0]
      = .ok (.encodeChannel channelQ1 context1000 board1000) := by decide +kernel
theorem test_decode_decodeChannel :
    onHost [0x29, 0x00, 0x06, 0x50, 0x28, 0xD0, 0x0F, 0, 0] = .ok (.decodeChannel 0x28500600 context1000) := by
  decide +kernel
theorem test_decode_chopKhz : onHost [0x30, 1, 1] = .ok (.chopKhz .base80k 1) := by decide
theorem test_decode_codeFromMa :
    onHost [0x31, 0, 0xD0, 0x0F, 0, 1] = .ok (.codeFromMa (.finite 1000) .nonFinite) := by decide +kernel
theorem test_decode_maFromCode : onHost [0x32, 0xD0, 0x0F, 0, 80] = .ok (.maFromCode 1000 80) := by decide +kernel
theorem test_decode_codeFromDuty :
    onHost [0x33, 0, 100, 0, 0, 3, 1] = .ok (.codeFromDuty (.finite 50) .base100k 3 true) := by decide +kernel
theorem test_decode_dutyFromCode : onHost [0x34, 127] = .ok (.dutyFromCode 127) := by decide
theorem test_decode_dutyLimits : onHost [0x35, 1, 3, 0] = .ok (.dutyLimits .base80k 3 false) := by decide
theorem test_decode_codeFromMs : onHost [0x36, 0, 1, 0, 0] = .ok (.codeFromMs (.finite (-1)) 25) := by decide +kernel
theorem test_decode_msFromCode : onHost [0x37, 6, 5] = .ok (.msFromCode 6 26) := by decide
theorem test_decode_dutyCodeLinear : onHost [0x38, 2, 1] = .ok (.dutyCodeLinear (1 / 2)) := by decide +kernel
theorem test_decode_quantizeChannel :
    onHost [0x39, 0, 0, 0, 0, 0, 0xEC, 0x09, 0, 0, 0xF6, 0x04, 0, 0, 20, 0, 0xD0, 0x0F, 0, 0, 0, 0, 1, 0xA0, 0x06, 0, 0]
      = .ok (.quantizeChannel channelQ1 context1000 ⟨0, some 400, none⟩) := by decide +kernel
theorem test_decode_dequantizeChannel :
    onHost [0x3A, 0x00, 0x06, 0x50, 0x28, 0xD0, 0x0F, 0, 0]
      = .ok (.dequantizeChannel (unpackChannel 0x28500600) context1000) := by decide +kernel
theorem test_decode_initializeDevice : onHost [0x40] = .ok .initializeDevice := by decide
theorem test_decode_deinitialize : onHost [0x41] = .ok .deinitialize := by decide
theorem test_decode_configureChannel :
    onHost [0x42, 7, 0, 0, 0, 0, 0, 0xEC, 0x09, 0, 0, 0xF6, 0x04, 0, 0, 20, 0] = .ok (.configureChannel 7 channelQ1) := by
  decide +kernel
theorem test_decode_getChannelConfig : onHost [0x43, 0xFF, 0x01] = .ok (.getChannelConfig 255) := by decide
theorem test_decode_setChannelsOn : onHost [0x44, 0x05] = .ok (.setChannelsOn 0x05) := by decide
theorem test_decode_setChannelEnabled : onHost [0x45, 1, 1] = .ok (.setChannelEnabled 1 true) := by decide
theorem test_decode_setPairMode : onHost [0x46, 3, 2] = .ok (.setPairMode 3 .hBridge) := by decide
theorem test_decode_readStatus : onHost [0x47] = .ok .readStatus := by decide
theorem test_decode_readFaults : onHost [0x48] = .ok .readFaults := by decide
theorem test_decode_getDpmConfig : onHost [0x49] = .ok .getDpmConfig := by decide
theorem test_decode_setDpmConfig : onHost [0x4A, 0x35, 0x40, 0, 0] = .ok (.setDpmConfig ⟨64, 3, 5⟩) := by decide
theorem test_decode_setDpmConfig_reserved : onHost [0x4A, 0, 0x80, 0, 0] = .error .invalidOperand := by decide
theorem test_decode_setBoardScale :
    onHost [0x4B, 0, 0xD0, 0x0F, 0, 0, 0] = .ok (.setBoardScale ⟨.finite 1000, none, none⟩) := by decide +kernel
theorem test_decode_rawWriteRegister :
    onHost [0x4C, 0, 0x01, 0x00, 0x01, 0x00] = .ok (.rawWriteRegister 0 0x00010001) := by decide
theorem test_decode_rawReadRegister : onHost [0x4D, 9] = .ok (.rawReadRegister 9) := by decide
theorem test_decode_readFaultLine : onHost [0x4E] = .ok .readFaultLine := by decide
theorem test_decode_validateChannel :
    onHost [0x4F, 0, 0, 0, 0, 0, 0xEC, 0x09, 0, 0, 0xF6, 0x04, 0, 0, 20, 0, 0xD0, 0x0F, 0, 0, 0]
      = .ok (.validateChannel channelQ1 board1000) := by decide +kernel
theorem test_decode_negativeCeilings :
    onHost [0x4F, 0, 0, 0, 0, 0, 0xEC, 0x09, 0, 0, 0xF6, 0x04, 0, 0, 20, 0, 0xD0, 0x0F, 0, 1, 1, 0, 1, 3, 0]
      = .ok (.validateChannel channelQ1 ⟨1000, some (-1), some (-2)⟩) := by decide +kernel
theorem test_decode_ensureCache : onHost [0x50] = .ok .ensureCache := by decide
theorem test_decode_unknownOperation : onHost [0x51] = .error .unknownOperation := by decide
theorem test_tableWord_hostOp : decodeTableWord 8 0x40 = some .initializeDevice := by decide
theorem test_tableWord_cmd8 : decodeTableWord 8 0x92 = some (.wr32 9 0) := by decide
theorem test_tableWord_stat8 : decodeTableWord 8 0xE0 = some (.stat8 0xE0) := by decide

/-! ### One step, on vectors of 95_test_vectors.md -/

/-- `s` with the answers the environment will give to its next exchanges. -/
def scripted (answers : List (Option Quad)) (s : State) : State := { s with env := ⟨answers, [], 0, 0⟩ }

/-- An answer whose first byte is `b`: a status byte, or the byte of a narrow read. -/
def byteAnswer (b : Byte) : Option Quad := some ⟨b, 0, 0, 0⟩

/-- The status byte of the programs P1 to P6. -/
def ok1 : Quad := ⟨0x01, 0, 0, 0⟩

/-- The communication-error status byte. -/
def err4 : Quad := ⟨0x04, 0, 0, 0⟩

/-- Four zero bytes. -/
def zeros : Quad := ⟨0, 0, 0, 0⟩

/-- The state P3 ends in, with the event that asserted the enable line. -/
def active : State :=
  { State.reset with
    enable := .asserted
    dsmState := .active
    cache := unpackStatus 0x00000001
    cacheValid := true
    board := board1000
    trace := [.setLine .enable .asserted] }

/-- `active` with an invalid cache. -/
def activeStale : State := { active with cacheValid := false }

/-- The next state, if there is one. -/
def next (r : StepResult) : Option State :=
  match r with
  | .next t => some t
  | _ => none

/-- The bytes sent in the exchanges of a state's trace. -/
def sent (s : State) : List (List Byte) :=
  s.trace.filterMap fun e =>
    match e with
    | .xfer tx _ => some tx
    | _ => none

/-- P1. -/
theorem test_initialize_P1 :
    (next (exec .initializeDevice (scripted
      [byteAnswer 4, byteAnswer 4, some ok1, some ⟨0, 0, 0, 2⟩, some ok1, some zeros, some ok1, some ⟨0, 0, 0, 1⟩]
      State.reset))).map (fun t => (sent t, t.dsmState, t.cache, t.lastStatus, t.result)) =
    some ([[0x00], [0x00], [0x00], [0, 0, 0, 0], [0x80], [0x03, 0, 0, 0], [0x00], [0, 0, 0, 0]], .active,
      unpackStatus 1, some 0x01, some (.ok .unit)) := by decide +kernel
/-- P2. -/
theorem test_initialize_P2 :
    (next (exec .initializeDevice (scripted [byteAnswer 4, byteAnswer 4, byteAnswer 4] State.reset))).map
      (fun t => (sent t, t.dsmState, t.enable, t.lastStatus, t.result)) =
    some ([[0x00], [0x00], [0x00]], .uninitialized, .asserted, some 0x04, some (.err .communicationError)) := by
  decide +kernel
/-- P3. -/
theorem test_configureChannel_P3 :
    (next (exec (.configureChannel 0 channelQ1) (scripted [some ok1, some zeros] active))).map sent =
    some [[0x82], [0x00, 0x06, 0x50, 0x28]] := by decide +kernel
/-- P3. -/
theorem test_getChannelConfig_P3 :
    (next (exec (.getChannelConfig 0) (scripted [some ok1, some ⟨0x28, 0x50, 0x06, 0x00⟩] active))).map (·.result) =
    some (some (.ok (.channelConfig { channelQ1 with hitTimeMs := .finite (48 / 5) }))) := by decide +kernel
/-- P4. -/
theorem test_setChannelsOn_P4 :
    (next (exec (.setChannelsOn 0x05) (scripted [some ok1, some zeros] active))).map
      (fun t => (sent t, t.cache.channelsOn)) = some ([[0x81], [0x05]], 0x05) := by decide +kernel
/-- P4: the data exchange fails. -/
theorem test_setChannelsOn_fails_P4 :
    (next (exec (.setChannelsOn 0xFF) (scripted [some ok1, none] active))).map
      (fun t => (t.result, t.cache.channelsOn, t.cacheValid)) =
    some (some (.err .communicationError), 0x00, true) := by decide +kernel
/-- P4. -/
theorem test_setChannelEnabled_P4 :
    (next (exec (.setChannelEnabled 1 true)
      (scripted [some ok1, some zeros] { active with cache := unpackStatus 0x05000001 }))).map sent =
    some [[0x81], [0x07]] := by decide +kernel
/-- S7. -/
theorem test_setPairMode_refused_S7 :
    (next (exec (.setPairMode 0 .hBridge) { active with cache := unpackStatus 0x02000001 })).map
      (fun t => (t.result, sent t)) = some (some (.err .invalidParameter), []) := by decide +kernel
/-- S7. -/
theorem test_setPairMode_proceeds_S7 :
    (next (exec (.setPairMode 0 .hBridge)
      (scripted [some ok1, some zeros] { active with cache := unpackStatus 0x04000001 }))).map
      (fun t => (sent t, t.cache.pairMode.p0)) = some ([[0x80], [0x01, 0x02, 0x00, 0x04]], .hBridge) := by decide +kernel
/-- P5. -/
theorem test_readFaults_P5 :
    (next (exec .readFaults (scripted [some ok1, some ⟨0x01, 0x00, 0x80, 0x00⟩] active))).map
      (fun t => (sent t, t.result)) =
    some ([[0x12], [0, 0, 0, 0]], some (.ok (.faultWord ⟨0x01, 0x00, 0x80, 0x00⟩))) := by decide +kernel
/-- P5. -/
theorem test_deinitialize_P5 :
    (next (exec .deinitialize (scripted [some ok1, some zeros] { active with cache := unpackStatus 0x07000001 }))).map
      (fun t => (sent t, t.enable, t.dsmState, t.cacheValid)) =
    some ([[0x80], [0, 0, 0, 0]], .deasserted, .uninitialized, false) := by decide +kernel
/-- P6. -/
theorem test_rawWriteRegister_P6 :
    (next (exec (.rawWriteRegister 0 0x00010001) (scripted [some ok1, some zeros] active))).map
      (fun t => (sent t, t.cacheValid)) = some ([[0x80], [0x01, 0x00, 0x01, 0x00]], false) := by decide +kernel
/-- P6: the forced re-read comes first, and the stale clock base is not used. -/
theorem test_configureChannel_P6 :
    (next (exec (.configureChannel 1 { channelQ1 with
        driveMode := .voltage, hitSetpoint := .finite 50, holdSetpoint := .finite 20 })
      (scripted [some ok1, some ⟨0, 1, 0, 1⟩, some ok1, some zeros] activeStale))).map sent =
    some [[0x00], [0, 0, 0, 0], [0x84], [0x80, 0x05, 0x40, 0x19]] := by decide +kernel
/-- T3: a whole byte is compared with the code. -/
theorem test_writeCommand_T3 :
    (next (exec (.writeCommand 0 false false) (scripted [byteAnswer 0x0C] State.reset))).map (·.result) =
    some (some (.ok (.commStatus ⟨0x0C, false⟩))) := by decide +kernel
/-- T3. -/
theorem test_readReg32_error_T3 :
    (next (exec (.readReg32 9) (scripted [byteAnswer 0x04] State.reset))).map
      (fun t => (sent t, t.pending, t.result)) =
    some ([[0x12]], none, some (.err .communicationError)) := by decide +kernel
/-- R23: without an exchange no byte is retained. -/
theorem test_stat8_retains_nothing :
    (next (exec (.stat8 0x55) State.reset)).map (fun t => (t.lastStatus, t.result)) =
    some (none, some (.ok (.commStatus ⟨0x55, false⟩))) := by decide
/-- R301, R285: no register access through the manager before `initialize`. -/
theorem test_ensureCache_gated_R301 : exec .ensureCache (scripted [some ok1, some zeros] State.reset) =
    .next { scripted [some ok1, some zeros] State.reset with result := some (.err .initializationFailure) } := rfl
/-- T3: refused without its command. -/
theorem test_readData32_refused_T3 : next (exec .readData32 State.reset) = none := by decide
/-- T4. -/
theorem test_packStatus_T4 :
    packStatus ⟨0x03, 0, .base80k, ⟨.hBridge, .independent, .independent, .independent⟩, 0, true⟩ = 0x03010201 := by decide
/-- T5. -/
theorem test_packChannel_T5 :
    packChannel ⟨true, 25, .spi, 127, 255, .current, .lowSide, 1, true, false, true, true⟩ = 0x997FFF1B := by decide
/-- T6. -/
theorem test_unpackDpm_T6 : unpackDpm 0xFFFFFFFF = ⟨127, 15, 15⟩ := by decide
/-- T8: a tie goes up. -/
theorem test_codeFromMa_T8 : codeFromMa (.finite 1000) (.finite 500) = .ok 64 := by decide +kernel
/-- T8. -/
theorem test_maFromCode_T8 : maFromCode 500 25 = 98 := by decide +kernel
/-- T9. -/
theorem test_codeFromDuty_T9 : codeFromDuty Config.Params.default (.finite 95) .base100k 3 false = .ok 117 := by
  decide +kernel
/-- T9. -/
theorem test_dutyCodeLinear_T9 : dutyCodeLinear 97 = 123 := by decide +kernel
/-- T9. -/
theorem test_dutyFromCode_T9 : dutyFromCode 117 = 92 := by decide +kernel
/-- T10: a tie at 26 kHz. -/
theorem test_codeFromMs_T10 : codeFromMs (.finite 10) 26 = .ok 7 := by decide +kernel
/-- T10. -/
theorem test_msFromCode_T10 : msFromCode 8 33 = 320 / 33 := by decide +kernel
/-- Q2: the ceiling comes first. -/
theorem test_encodeChannel_Q2 :
    encodeChannel Config.Params.default channelQ1 context1000 ⟨1000, some 400, none⟩ = .ok 0x28330600 := by decide +kernel
/-- R193: a ceiling never causes an error; below zero the current codes are 0. -/
theorem test_quantizeChannel_negativeCurrentCeiling :
    (quantizeChannel Config.Params.default channelQ1 context1000 ⟨1000, some (-1), none⟩).toOption.map
      (fun r => (r.hitCode, r.holdCode, r.hitTimeCode)) = some (0, 0, 6) := by decide +kernel
/-- R193: a duty ceiling below the hardware minimum yields that minimum, 4 percent, code 5. -/
theorem test_quantizeChannel_negativeDutyCeiling :
    (quantizeChannel Config.Params.default { channelQ1 with driveMode := .voltage } context1000
      ⟨1000, none, some (-1)⟩).toOption.map (fun r => (r.hitCode, r.holdCode)) = some (5, 5) := by decide +kernel
/-- Q7. -/
theorem test_quantizeChannel_Q7 :
    quantizeChannel Config.Params.default { channelQ1 with chopSel := 2, slewRateControl := true } context1000 board1000 =
      .error .invalidParameter := by decide +kernel
/-- T12. -/
theorem test_setBoardScale_T12 :
    (next (exec (.setBoardScale ⟨.finite (-1), none, none⟩) State.reset)).map (·.result) =
    some (some (.err .invalidParameter)) := by decide +kernel
/-- T12: the index is checked before the sequencer's state. -/
theorem test_configureChannel_index_T12 :
    (next (exec (.configureChannel 8 channelQ1) State.reset)).map (·.result) =
    some (some (.err .invalidParameter)) := by decide +kernel

/-! ### Witnesses: a state and operands that meet the hypotheses of each statement, for each of its clauses -/

/-- `s` with a pending command for a data phase of this direction and width. -/
def awaiting (isWrite narrow : Bool) (s : State) : State := { s with pending := some ⟨10, isWrite, narrow⟩ }

/-- Both phases are answered and the status byte is no error. -/
def answered : State := scripted [some ok1, some zeros] active

/-- `s` with an environment that fails the next transaction: in its command exchange, by its status byte, or in its data
exchange. -/
def failing (s : State) (k : Fin 3) : State :=
  scripted (match k with | 0 => [none] | 1 => [some err4] | 2 => [some ok1, none]) s

theorem failing_fails (bank : Bank) (isWrite narrow : Bool) (tx : List Byte) (s : State)
    (h : s.params.commErrCode = 0x04) : ∀ k, ∃ t, failedTransfer bank isWrite narrow tx (failing s k) t
  | 0 => ⟨_, .inl ⟨rfl, rfl⟩⟩
  | 1 => ⟨_, .inr (.inl ⟨err4, rfl, h.symm, rfl⟩)⟩
  | 2 => ⟨_, .inr (.inr ⟨ok1, ⟨rfl, by rw [show (failing s 2).params = s.params from rfl, h]; decide⟩, rfl, rfl⟩)⟩

theorem witness_decodeInvertsEncode :
    (Instr.validateChannel channelQ1 ⟨0, some 0, some 0⟩).wellFormed = true ∧
    (Instr.codeFromMs .nonFinite 100).wellFormed = true := by decide +kernel
theorem witness_decodeAnswersWellFormed : decode ⟨.hostOp, [0x29, 0, 0, 0, 0, 0, 0, 1]⟩ =
    .ok (.decodeChannel 0 ⟨0, .base80k⟩) := by decide +kernel
theorem witness_commandByteLayout : (10 : Bank).toNat ≤ 10 ∧ (0 : Bank).toNat ≤ 10 := by decide
theorem witness_fullWriteSends : pendingMatches true false (awaiting true false answered) = true := by decide
theorem witness_fullReadIs : pendingMatches false false (awaiting false false answered) = true ∧
    answerAt (awaiting false false answered).env 0 = some ⟨0x01, 0, 0, 0⟩ := ⟨by decide, rfl⟩
theorem witness_stepRunsDecodedRequest :
    let f : Frame := ⟨.hostOp, [0x40]⟩
    let g : Frame := ⟨.cmd8, [0x20]⟩
    ({ active with requests := [f] } : State).requests = f :: [] ∧ decode f = .ok .initializeDevice ∧
      ({ active with requests := [g, f] } : State).requests = g :: [f] ∧ decode g = .error .invalidReservedBits ∧
      State.reset.requests = [] := by decide
theorem witness_fetchWordRunsNext : decodeTableWord 8 0x47 = some .readStatus := by decide
theorem witness_stepKeepsInvariant :
    Invariant { active with requests := [⟨.hostOp, [0x4E]⟩] } ∧
      ∃ t, step { active with requests := [⟨.hostOp, [0x4E]⟩] } = .next t :=
  ⟨⟨rfl, (fun _ h => nomatch h), fun _ => rfl, fun _ => rfl,
    ⟨by decide +kernel, (fun _ h => nomatch h), (fun _ h => nomatch h)⟩, rfl, rfl, rfl, rfl, rfl, none, rfl,
    (fun _ h => nomatch h)⟩, _, rfl⟩
theorem witness_stepAppendsToTrace : ∃ t, step { active with requests := [⟨.hostOp, [0x40]⟩] } = .next t := ⟨_, rfl⟩
theorem witness_reservedKindsNeverReturned :
    (∃ t, exec .readStatus State.reset = .next t) ∧ State.reset.params.errNotActive ≠ .hardwareFault ∧
      State.reset.params.errNotActive ≠ .timeout := ⟨⟨_, rfl⟩, by decide, by decide⟩
theorem witness_sequencerWritten :
    (∃ t, exec .readStatus answered = .next t) ∧ (∃ t, exec .initializeDevice answered = .next t) ∧
      ∃ t, exec .deinitialize answered = .next t := ⟨⟨_, rfl⟩, ⟨_, rfl⟩, _, rfl⟩
theorem witness_enableAndBoardWritten :
    (∃ t, exec .readFaults answered = .next t) ∧ Instr.readFaults ≠ .initializeDevice ∧
      Instr.readFaults ≠ .deinitialize ∧ ∀ b, Instr.readFaults ≠ .setBoardScale b :=
  ⟨⟨_, rfl⟩, by decide, by decide, fun _ h => nomatch h⟩
theorem witness_engineLeavesManagerState :
    (∃ t, exec (.writeReg32 0 5) answered = .next t) ∧ ∃ t, exec (.writeReg32 1 5) (scripted [none] active) = .next t :=
  ⟨⟨_, rfl⟩, _, rfl⟩
theorem witness_writeCommandCompletes : (10 : Bank).toNat ≤ 10 ∧ answerAt answered.env 0 = some ok1 ∧
    answerAt (scripted [none] active).env 0 = none := ⟨by decide, rfl, rfl⟩
theorem witness_dataPhasesComplete :
    pendingMatches true false (awaiting true false answered) = true ∧
    pendingMatches false false (awaiting false false answered) = true ∧
    pendingMatches true true (awaiting true true answered) = true ∧
    pendingMatches false true (awaiting false true answered) = true ∧
    answerAt (awaiting true false answered).env 0 = some ok1 ∧
    answerAt (awaiting true false (scripted [none] active)).env 0 = none :=
  ⟨by decide, by decide, by decide, by decide, rfl, rfl⟩
theorem witness_transactionsComplete :
    (10 : Bank).toNat ≤ 10 ∧ statusOkAt answered 0 ok1 ∧ answerAt answered.env 1 = some zeros :=
  ⟨by decide, ⟨rfl, by decide⟩, rfl⟩
theorem witness_transportFailureIsReported :
    (10 : Bank).toNat ≤ 10 ∧ answerAt (scripted [none] active).env 0 = none ∧
    pendingMatches true true (awaiting true true (scripted [none] active)) = true ∧
    pendingMatches true false (awaiting true false (scripted [none] active)) = true ∧
    statusOkAt (scripted [some ok1, none] active) 0 ok1 ∧
    answerAt (scripted [some ok1, none] active).env 1 = none ∧
    (∀ k : Fin 3, (∃ t, failedTransfer 0 true true [5] (failing active k) t) ∧
      ∃ t, failedTransfer 10 false false (fill32 active.params) (failing active k) t) :=
  ⟨by decide, rfl, by decide, by decide, ⟨rfl, by decide⟩, rfl,
    fun k => ⟨failing_fails 0 true true [5] active rfl k, failing_fails 10 false false _ active rfl k⟩⟩
theorem witness_errorStatusEndsTransaction :
    answerAt (scripted [some err4] active).env 0 = some err4 ∧ err4.b0 = (scripted [some err4] active).params.commErrCode :=
  ⟨rfl, by decide⟩
theorem witness_reservedBankRejected : 10 < (11 : Bank).toNat ∧ 10 < (15 : Bank).toNat := by decide
theorem witness_transactionMakesAtMostTwoExchanges :
    (∃ t, exec (.rd32 10) answered = .next t) ∧ ∃ t, exec (.rd32 11) answered = .next t := ⟨⟨_, rfl⟩, _, rfl⟩
theorem witness_transactionIsItsTwoPhases :
    (∃ t, exec (.writeCommand 1 true false) answered = .next t ∧
      t.result = some (.ok (.commStatus ⟨0x01, false⟩))) ∧
    (∃ t, exec (.writeCommand 10 false false) answered = .next t ∧
      t.result = some (.ok (.commStatus ⟨0x01, false⟩))) ∧
    (∃ t, exec (.writeCommand 0 true true) answered = .next t ∧
      t.result = some (.ok (.commStatus ⟨0x01, false⟩))) ∧
    (∃ t, exec (.writeCommand 9 false true) answered = .next t ∧
      t.result = some (.ok (.commStatus ⟨0x01, false⟩))) := ⟨⟨_, rfl, rfl⟩, ⟨_, rfl, rfl⟩, ⟨_, rfl, rfl⟩, _, rfl, rfl⟩
theorem witness_quantizeCompletes_current :
    channelQ1.hitSetpoint = .finite 630 ∧ channelQ1.holdSetpoint = .finite 315 ∧ channelQ1.hitTimeMs = .finite 10 ∧
    channelQ1.driveMode = .current ∧ (0 : Rat) < context1000.fullScaleMa ∧
    (channelQ1.slewRateControl = true → chopKhz context1000.clockBase channelQ1.chopSel < 50) := by decide +kernel
/-- The highest chop frequency at which slew-rate control is legal. -/
theorem witness_quantizeCompletes_voltage :
    let cfg := { channelQ1 with driveMode := DriveMode.voltage, slewRateControl := true, chopSel := 2 }
    cfg.hitSetpoint = .finite 630 ∧ cfg.holdSetpoint = .finite 315 ∧ cfg.hitTimeMs = .finite 10 ∧
    cfg.driveMode = .voltage ∧ chopKhz .base80k cfg.chopSel < 50 := by decide +kernel
theorem witness_quantizeRejects :
    50 ≤ chopKhz .base100k 2 ∧ channelQ1.driveMode = .current ∧ (⟨0, .base100k⟩ : ConvContext).fullScaleMa ≤ 0 ∧
    ({ channelQ1 with hitTimeMs := .nonFinite } : ChannelConfig).hitTimeMs = .nonFinite := by decide +kernel
theorem witness_linearCodesComplete :
    (0 : Rat) < 1000 ∧ (0 : Rat) ≤ 0 ∧ (-5 : Rat) ≤ 0 ∧ (0 : Rat) < 1 / 1000 := by decide +kernel
theorem witness_dutyConversionsComplete :
    ((true = true ∧ (ClockBase.base80k = .base100k ∧ ((3 : Sel2) = 2 ∨ (3 : Sel2) = 3) ∨
      ClockBase.base80k = .base80k ∧ (3 : Sel2) = 3))) ∧
    ¬ (true = true ∧ (ClockBase.base80k = .base100k ∧ ((2 : Sel2) = 2 ∨ (2 : Sel2) = 3) ∨
      ClockBase.base80k = .base80k ∧ (2 : Sel2) = 3)) := by decide
theorem witness_timingCodes :
    khzWellFormed 20 = true ∧ khzWellFormed 100 = true ∧ (1000000 : Rat) ≤ 1000000 ∧ (-1 : Rat) < 0 ∧
    (0 : Rat) < 1 / 100 ∧ (999999 : Rat) < 1000000 := by decide +kernel
theorem witness_currentCodeMonotone :
    (0 : Rat) < 1000 ∧ (315 : Rat) ≤ 630 ∧ codeFromMa (.finite 1000) (.finite 315) = .ok 40 ∧
    codeFromMa (.finite 1000) (.finite 630) = .ok 80 := by decide +kernel
theorem witness_currentCodeRoundTrip : (127 : Rat) ≤ 127 ∧ (127 / 3 : Rat) < 43 := by decide +kernel
theorem witness_reencodeIsIdentity :
    (unpackChannel 0x997FFF1B).driveMode = .current ∧ (127 : Rat) ≤ 500 ∧
    chopKhz .base100k (unpackChannel 0x997FFF1B).chopSel < 50 ∧
    (maFromCode 500 (unpackChannel 0x997FFF1B).hitCode : Rat) ≤ 500 ∧
    (maFromCode 500 (unpackChannel 0x997FFF1B).holdCode : Rat) ≤ 500 := by decide +kernel

/-- Six answers of one successful attempt of `initialize`. -/
def attempt : List (Option Quad) := [some ok1, some zeros, some ok1, some zeros, some ok1, some zeros]

theorem witness_initializeCompletes :
    let s := scripted attempt State.reset
    statusOkAt s 0 ok1 ∧ answerAt s.env 1 = some zeros ∧ statusOkAt s 2 ok1 ∧ answerAt s.env 3 = some zeros ∧
      statusOkAt s 4 ok1 ∧ answerAt s.env 5 = some zeros :=
  ⟨⟨rfl, by decide⟩, rfl, ⟨rfl, by decide⟩, rfl, ⟨rfl, by decide⟩, rfl⟩
theorem witness_initializeRetryLaw :
    let s := scripted (some err4 :: some err4 :: attempt) State.reset
    let u := scripted [some err4, some err4, some err4] State.reset
    (answerAt s.env 0 = some err4 ∧ answerAt s.env 1 = some err4 ∧ err4.b0 = s.params.commErrCode ∧
      statusOkAt s 2 ok1 ∧ answerAt s.env 3 = some zeros ∧ statusOkAt s 4 ok1 ∧ answerAt s.env 5 = some zeros ∧
      statusOkAt s 6 ok1 ∧ answerAt s.env 7 = some zeros) ∧
    (answerAt u.env 0 = some err4 ∧ answerAt u.env 1 = some err4 ∧ answerAt u.env 2 = some err4) :=
  ⟨⟨rfl, rfl, rfl, ⟨rfl, by decide⟩, rfl, ⟨rfl, by decide⟩, rfl, ⟨rfl, by decide⟩, rfl⟩, rfl, rfl, rfl⟩
/-- Of the clauses about attempts: one that fails in its read, one in its write, one in its re-read, one that completes. -/
theorem witness_initializeAttempts :
    (∃ w t, attemptCompletes (scripted attempt State.reset) w t) ∧
    (∃ t1 t2 w t, attemptFails (scripted ([none, some ok1, some zeros, some err4] ++ attempt) State.reset) t1 ∧
      attemptFails t1 t2 ∧ attemptCompletes t2 w t) ∧
    (∃ t1 t2 t3, attemptFails (scripted ([none, some ok1, some zeros, some err4, some ok1, some zeros, some ok1,
      some zeros, some ok1, none]) State.reset) t1 ∧ attemptFails t1 t2 ∧ attemptFails t2 t3) :=
  ⟨⟨_, _, ok1, zeros, _, ok1, zeros, _, ok1, zeros, ⟨rfl, by decide⟩, rfl, rfl, ⟨rfl, by decide⟩, rfl, rfl,
      ⟨rfl, by decide⟩, rfl, rfl, rfl⟩,
    ⟨_, _, _, _, .inl (.inl ⟨rfl, rfl⟩),
      .inr ⟨ok1, zeros, _, ⟨rfl, by decide⟩, rfl, rfl, .inl (.inr (.inl ⟨err4, rfl, by decide, rfl⟩))⟩,
      ok1, zeros, _, ok1, zeros, _, ok1, zeros, ⟨rfl, by decide⟩, rfl, rfl, ⟨rfl, by decide⟩, rfl, rfl,
      ⟨rfl, by decide⟩, rfl, rfl, rfl⟩,
    ⟨_, _, _, .inl (.inl ⟨rfl, rfl⟩),
      .inr ⟨ok1, zeros, _, ⟨rfl, by decide⟩, rfl, rfl, .inl (.inr (.inl ⟨err4, rfl, by decide, rfl⟩))⟩,
      .inr ⟨ok1, zeros, _, ⟨rfl, by decide⟩, rfl, rfl, .inr ⟨ok1, zeros, _, ⟨rfl, by decide⟩, rfl, rfl,
        .inr (.inr ⟨ok1, ⟨rfl, by decide⟩, rfl, rfl⟩)⟩⟩⟩⟩
theorem witness_deinitializeCompletes :
    State.reset.dsmState = .uninitialized ∧ answered.dsmState = .active ∧ answered.cacheValid = true ∧
    statusOkAt answered 0 ok1 ∧ answerAt answered.env 1 = some zeros ∧
    (let s := scripted [some ok1, none] active
     s.dsmState = .active ∧ s.cacheValid = true ∧
      ∃ t, failedTransfer 0 true false (quadBytes (data32wBytes (packStatus s.cache &&& 0x00FFFFFE#32))) s t) :=
  ⟨rfl, rfl, rfl, ⟨rfl, by decide⟩, rfl, rfl, rfl, _, .inr (.inr ⟨ok1, ⟨rfl, by decide⟩, rfl, rfl⟩)⟩
theorem witness_indexChecksComeFirst : 7 < 8 ∧ 3 < 4 ∧ (9 : Bank) = 9 := by decide
theorem witness_gatedOperationsNeedActive :
    State.reset.dsmState = .uninitialized ∧ (10 : Bank).toNat ≤ 10 ∧ (10 : Bank) ≠ 9 := by decide
/-- A configuration that passes the check, and one for each reason to fail it. -/
theorem witness_validateChannelCompletes :
    validateChannel channelQ1 board1000 = .ok () ∧
    validateChannel { channelQ1 with hitTimeMs := .nonFinite } board1000 = .error .invalidParameter ∧
    validateChannel { channelQ1 with sideMode := .highSide } board1000 = .error .invalidParameter ∧
    validateChannel { channelQ1 with driveMode := .voltage, sideMode := .highSide, halfScale := true } board1000 =
      .error .invalidParameter ∧
    validateChannel channelQ1 ⟨0, none, none⟩ = .error .invalidParameter := by decide +kernel
theorem witness_channelConfigurationCompletes :
    answered.dsmState = .active ∧ answered.cacheValid = true ∧ validateChannel channelQ1 answered.board = .ok () ∧
    encodeChannel answered.params channelQ1 ⟨answered.board.fullScaleMa, answered.cache.clockBase⟩ answered.board =
      .ok 0x28500600 ∧
    validateChannel { channelQ1 with sideMode := .highSide } answered.board = .error .invalidParameter ∧
    (activeStale.dsmState = .active ∧ activeStale.cacheValid = false ∧
      validateChannel { channelQ1 with hitSetpoint := .nonFinite } activeStale.board = .error .invalidParameter) ∧
    encodeChannel answered.params { channelQ1 with chopSel := 2, slewRateControl := true }
      ⟨answered.board.fullScaleMa, answered.cache.clockBase⟩ answered.board = .error .invalidParameter ∧
    statusOkAt answered 0 ok1 ∧ answerAt answered.env 1 = some zeros :=
  ⟨rfl, rfl, by decide +kernel, by decide +kernel, by decide +kernel, by decide +kernel, by decide +kernel,
    ⟨rfl, by decide⟩, rfl⟩
/-- Also of the statements about the reads, the writes and the switching of channels. -/
theorem witness_managerTransfers :
    answered.dsmState = .active ∧ statusOkAt answered 0 ok1 ∧ answerAt answered.env 1 = some zeros ∧
    answered.cacheValid = true ∧ (10 : Bank).toNat ≤ 10 ∧ (10 : Bank) ≠ 9 :=
  ⟨rfl, ⟨rfl, by decide⟩, rfl, rfl, by decide, by decide⟩
theorem witness_pairModeCompletes :
    let on : State := { answered with cache := unpackStatus 0x80000001 }
    on.dsmState = .active ∧ on.cacheValid = true ∧ on.cache.channelsOn.getLsbD (2 * 3 + 1) = true ∧
      answered.cache.channelsOn.getLsbD (2 * 3) = false ∧ answered.cache.channelsOn.getLsbD (2 * 3 + 1) = false ∧
      statusOkAt answered 0 ok1 ∧ answerAt answered.env 1 = some zeros :=
  ⟨rfl, rfl, by decide, by decide, by decide, ⟨rfl, by decide⟩, rfl⟩
theorem witness_boardAndFaultLine :
    (0 : Rat) ≤ 0 ∧ (∀ x ∈ (some 0 : Option Rat), 0 ≤ x) ∧ (-1 : Rat) < 0 ∧
    (⟨.finite 1, some (.finite (-1)), some .nonFinite⟩ : BoardRequest).maxCurrentMa = some (.finite (-1)) := by
  decide +kernel
theorem witness_dependentOperationsRereadFirst :
    answered.dsmState = .active ∧ answered.cacheValid = true ∧
    (let s := scripted [some ok1, some zeros] activeStale
     s.cacheValid = false ∧ s.dsmState = .active ∧ validateChannel channelQ1 s.board = .ok () ∧ statusOkAt s 0 ok1 ∧
      answerAt s.env 1 = some zeros) ∧
    (∀ k : Fin 3, ∃ t, failedTransfer 0 false false [0, 0, 0, 0] (failing activeStale k) t) :=
  ⟨rfl, rfl, ⟨rfl, rfl, by decide +kernel, ⟨rfl, by decide⟩, rfl⟩, failing_fails 0 false false [0, 0, 0, 0] activeStale rfl⟩
theorem witness_bypassWriteForcesReread :
    (∃ t, exec (.writeReg8 0 1) (scripted [none] State.reset) = .next t) ∧
    ∃ t, exec (.writeReg8 0 1) (scripted [some ok1, some zeros, some ok1, some zeros] active) = .next t ∧
      statusOkAt t 0 ok1 ∧ answerAt t.env 1 = some zeros ∧
      validateChannel channelQ1 active.board = .ok () := ⟨⟨_, rfl⟩, _, rfl, ⟨rfl, by decide⟩, rfl, by decide +kernel⟩
/-- Of the first clause, in a valid and in an invalid cache. -/
theorem witness_failedTransferKeepsManagerState :
    (∃ t, exec (.setChannelsOn 0xFF) (scripted [some ok1, none] activeStale) = .next t ∧
      t.result = some (.err .communicationError)) ∧
    (scripted [none] active).cacheValid = true ∧
    ∃ t, exec (.configureChannel 7 channelQ1) (scripted [none] active) = .next t ∧
      t.result = some (.err .communicationError) := ⟨⟨_, rfl, rfl⟩, rfl, by
  have h : (next (exec (.configureChannel 7 channelQ1) (scripted [none] active))).bind (·.result) =
    some (.err .communicationError) := by decide +kernel
  cases e : exec (.configureChannel 7 channelQ1) (scripted [none] active) <;> simp_all [next]⟩
/-- Of the second clause, at the highest bank, channel and pair. -/
theorem witness_failedTransferOfEachOperation :
    (∀ k : Fin 3, (failing active k).dsmState = .active ∧ (failing active k).cacheValid = true ∧
      (∃ t, failedTransfer 0 true true [0x81] (failing active k) t) ∧
      (∃ t, failedTransfer 8 true false [0x00, 0x06, 0x50, 0x28] (failing active k) t) ∧
      (∃ t, failedTransfer 9 false false [0, 0, 0, 0] (failing active k) t) ∧
      (∃ t, failedTransfer 10 false false [0, 0, 0, 0] (failing active k) t)) ∧
    (10 : Bank).toNat ≤ 10 ∧ (10 : Bank) ≠ 9 ∧ BitVec.ofNat 4 (1 + 7) = (8 : Bank) ∧
    validateChannel channelQ1 active.board = .ok () ∧
    encodeChannel active.params channelQ1 ⟨active.board.fullScaleMa, active.cache.clockBase⟩ active.board =
      .ok 0x28500600 ∧
    (∀ k, k < 8 → (0x80#8).getLsbD k = if k = 7 then true else active.cache.channelsOn.getLsbD k) ∧
    (let x : StatusWord := { active.cache with pairMode := { active.cache.pairMode with p3 := .hBridge } }
     active.cache.channelsOn.getLsbD (2 * 3) = false ∧ active.cache.channelsOn.getLsbD (2 * 3 + 1) = false ∧
      pairModeAt x.pairMode 3 = .hBridge ∧
      (∀ k, k ≤ 3 → k ≠ 3 → pairModeAt x.pairMode k = pairModeAt active.cache.pairMode k) ∧
      { x with pairMode := active.cache.pairMode } = active.cache) :=
  ⟨fun k => ⟨by revert k; decide, by revert k; decide, failing_fails 0 true true [0x81] active rfl k,
      failing_fails 8 true false [0x00, 0x06, 0x50, 0x28] active rfl k,
      failing_fails 9 false false [0, 0, 0, 0] active rfl k, failing_fails 10 false false [0, 0, 0, 0] active rfl k⟩,
    by decide, by decide, rfl, by decide +kernel, by decide +kernel, by decide, by decide, by decide, by decide,
    by decide, by decide⟩

end Sys2Proof.Tests
end

/-! The byte order of the two full data phases (R52, R53, R87, R88). A data phase whose command is pending completes with
the result of its exchange; the trace then shows the bytes sent, the result the word received. -/

namespace Sys2Proof.Machine

/-- An exchange of four bytes receives the whole answer (R12). -/
@[simp] theorem received_four (a : Option Quad) : received a 4 = a.map quadBytes := rfl

@[simp] theorem afterData_trace (tx : List Byte) (a : Option Quad) (s : State) :
    (afterData tx a s).trace = s.trace ++ [.xfer tx (received a tx.length)] := rfl

/-- The shifts of R88 leave no gap and no overlap: the word is the concatenation of the four bytes. -/
theorem data32rWord_eq_append (r0 r1 r2 r3 : Byte) : data32rWord ⟨r0, r1, r2, r3⟩ = r0 ++ r1 ++ r2 ++ r3 := by
  have full : (r0 ++ r1 ++ r2 ++ r3).setWidth 32 = r0 ++ r1 ++ r2 ++ r3 := BitVec.setWidth_eq _
  rw [← full, BitVec.setWidth_append_append_append_eq_shiftLeft_setWidth_or, data32rWord]

/-- A data phase whose command is pending is not refused (R128). -/
theorem dataPhase_of_pendingMatches {α : Type} {wr n : Bool} {s : State} (h : pendingMatches wr n s = true)
    (value : α → Value) (phase : State → State × Option α) :
    dataPhase wr n value phase s = .next ((phase s).1.withResult (phaseResult value (phase s).2)) :=
  if_pos h

/-- A full write, answered or not (R123). -/
theorem exec_writeData32 {s : State} (h : pendingMatches true false s = true) (w : Word) :
    exec (.writeData32 w) s =
      .next ((afterData (quadBytes (data32wBytes w)) (answerAt s.env 0) s).withResult
        (phaseResult (fun _ => .unit) ((answerAt s.env 0).map fun _ => ()))) := by
  have arm : exec (.writeData32 w) s = execWriteData32 w s := rfl
  rw [arm, execWriteData32, dataPhase_of_pendingMatches h, sendData32_eq]

/-- A full read, answered or not (R124). -/
theorem exec_readData32 {s : State} (h : pendingMatches false false s = true) :
    exec .readData32 s =
      .next ((afterData (fill32 s.params) (answerAt s.env 0) s).withResult
        (phaseResult .word ((answerAt s.env 0).map data32rWord))) := by
  have arm : exec .readData32 s = execReadData32 s := rfl
  rw [arm, execReadData32, dataPhase_of_pendingMatches h, receiveData32_eq]

/-- Settles O5: the exchange of a full write is recorded with the bytes of `data32wBytes`, byte 0 of the register
first. -/
theorem fullWriteSendsLeastSignificantFirst : Obligations.FullWriteSendsLeastSignificantFirst := by
  refine ⟨fun s w h => ⟨_, exec_writeData32 h w, ?_⟩, by decide⟩
  rw [withResult_trace, afterData_trace, ← received_four]
  rfl

/-- Settles O6: an answered full read delivers `data32rWord` of the answer, which is its concatenation. -/
theorem fullReadIsMostSignificantFirst : Obligations.FullReadIsMostSignificantFirst := by
  refine ⟨fun s r0 r1 r2 r3 h ha => ⟨_, exec_readData32 h, ?_⟩, by decide⟩
  rw [withResult_result, ha, Option.map_some, data32rWord_eq_append]
  rfl

end Sys2Proof.Machine

/-! The channel codec in engineering units (R161, R162), and the example word of R162. -/

namespace Sys2Proof.Machine

/-- The fields of the example word: codes 80 and 40 of the setpoints, code 6 of the time, `Current` mode. -/
theorem unpackChannel_exampleWord : unpackChannel 0x28500600 =
    { halfScale := false, holdCode := 40, trigger := .spi, hitCode := 80, hitTimeCode := 6, driveMode := .current,
      sideMode := .lowSide, chopSel := 0, slewRateControl := false, openLoadEn := false, plungerDetectEn := false,
      hitCheckEn := false } := by decide

/-- In `Current` mode a decoded channel carries milliamps (R195). -/
theorem dequantizeChannel_of_current {r : ChannelRaw} (h : r.driveMode = .current) (ctx : ConvContext) :
    dequantizeChannel r ctx =
      { halfScale := r.halfScale, holdSetpoint := .finite (maFromCode ctx.fullScaleMa r.holdCode), trigger := r.trigger,
        hitSetpoint := .finite (maFromCode ctx.fullScaleMa r.hitCode),
        hitTimeMs := .finite (msFromCode r.hitTimeCode (chopKhz ctx.clockBase r.chopSel)), driveMode := .current,
        sideMode := r.sideMode, chopSel := r.chopSel, slewRateControl := r.slewRateControl,
        openLoadEn := r.openLoadEn, plungerDetectEn := r.plungerDetectEn, hitCheckEn := r.hitCheckEn } := by
  simp only [dequantizeChannel, h]

/-- In `Current` mode the codes do not depend on the parameters: only the duty limits read them (R187, R194). -/
theorem encodeChannel_params_of_current {cfg : ChannelConfig} (h : cfg.driveMode = .current) (p q : Config.Params)
    (ctx : ConvContext) (board : BoardScale) : encodeChannel p cfg ctx board = encodeChannel q cfg ctx board := by
  simp only [encodeChannel, quantizeChannel, h]

/-- The example of R162: codes 80 and 40 of 1000 mA are 629.9 mA and 315.0 mA, and 6 counts of 40 cycles at 25 kHz are
9.6 ms. -/
theorem decodeChannel_exampleWord : decodeChannel 0x28500600 ⟨1000, .base100k⟩ =
    { halfScale := false, holdSetpoint := .finite 315, trigger := .spi, hitSetpoint := .finite 630,
      hitTimeMs := .finite (48 / 5), driveMode := .current, sideMode := .lowSide, chopSel := 0,
      slewRateControl := false, openLoadEn := false, plungerDetectEn := false, hitCheckEn := false } := by
  have hit : maFromCode 1000 80 = 630 := by decide +kernel
  have hold : maFromCode 1000 40 = 315 := by decide +kernel
  have time : msFromCode 6 (chopKhz .base100k 0) = 48 / 5 := by decide +kernel
  rw [decodeChannel, unpackChannel_exampleWord, dequantizeChannel_of_current rfl, hit, hold, time]
  rfl

/-- Settles O34: the operation delivers the decoded word and nothing else; the example word is in `Current` mode, so one
set of parameters shows its re-encoding for all. -/
theorem decodeChannelCompletes : Obligations.DecodeChannelCompletes := by
  refine ⟨fun s w ctx => rfl, decodeChannel_exampleWord, fun p => ?_⟩
  rw [decodeChannel_exampleWord, encodeChannel_params_of_current rfl p Config.Params.default]
  decide +kernel

end Sys2Proof.Machine

/-! What an operation can do to the state, said once: a run of an operation is a sequence of moves, and each move keeps
the invariant. Here are the moves; the operations as sequences of them come after. -/

namespace Sys2Proof.Machine

/-- What a move is for: the wire and its inputs, the invalidation of the cache (R243), the other writes of the cache,
the board scale (R234), and the steps of `initializeDevice` (R221) and `deinitialize` (R223). -/
inductive MoveKind where
  | wire | invalidate | cache | board | start | stop

/-- One move, with what is known where an operation makes it. -/
inductive Move : MoveKind → State → State → Prop where
  | commandFailed {s : State} {bank : Bank} (wr n : Bool) (h : bankValid bank = true) :
    Move .wire s { s with
      pending := none
      cmdSel := .deasserted
      env := afterXfers s.env 1
      trace := s.trace ++ commandEvents bank wr n none }
  | commandAnswered {s : State} {bank : Bank} (wr n : Bool) (q : Quad) (h : bankValid bank = true) :
    Move .wire s (afterCommand bank wr n q s)
  | dropPending {s : State} : Move .wire s (s.withPending none)
  | data {s : State} {p : Pending} {e : Env} {tx : List Byte} (a : Option Quad) (hp : s.pending = some p)
    (htx : tx.length = if p.narrow then 1 else 4) (hx : e.xferCount = s.env.xferCount + 1)
    (hr : e.readCount = s.env.readCount) :
    Move .wire s { s with
      pending := none
      env := e
      trace := s.trace ++ [.xfer tx (received a tx.length)] }
  | faultRead {s : State} : Move .wire s (readLine s).1
  | invalidated {s : State} : Move .invalidate s (s.withCacheValid false)
  | cacheLoaded {s : State} (w : Word) (h : s.dsmState = .active) : Move .cache s (loadCache w s)
  | cacheWritten {s : State} (x : StatusWord) : Move .cache s (s.withCache x)
  | boardSet {s : State} {b : BoardScale} (h : BoardNonNegative b) : Move .board s (s.withBoard b)
  | poweredUp {s : State} (us : Nat) : Move .start s (delay us (setLine .enable .asserted s))
  | started {s : State} (w : Word) (h : s.enable = .asserted) : Move .start s ((loadCache w s).withDsm .active)
  | gaveUp {s : State} : Move .start s ((s.withDsm .uninitialized).withCacheValid false)
  | stopped {s : State} :
    Move .stop s (((setLine .enable .deasserted s).withDsm .uninitialized).withCacheValid false)

/-! ### The readers of the trace -/

@[simp] theorem xfersOf_append (t es : List Event) : xfersOf (t ++ es) = xfersOf t + xfersOf es :=
  List.countP_append

@[simp] theorem readsOf_append (t es : List Event) : readsOf (t ++ es) = readsOf t + readsOf es :=
  List.countP_append

/-- One event seen by a reader of a line: the step of `levelAfter`. -/
def levelNext (l : OutLine) (v : Level) : Event → Level
  | .setLine l' v' => if l' = l then v' else v
  | _ => v

theorem levelAfter_append (l : OutLine) (t es : List Event) :
    levelAfter l (t ++ es) = es.foldl (levelNext l) (levelAfter l t) :=
  List.foldl_append

/-- The reader of the status byte goes on event by event. -/
theorem retainedAfter_append (t es : List Event) :
    retainedAfter (t ++ es) = es.foldl retainNext (retainedAfter t) :=
  List.foldl_append

/-- So does the reader of the wire. -/
theorem wireAfter_append (t es : List Event) {p : WirePhase} (h : wireAfter t = some p) :
    wireAfter (t ++ es) = es.foldlM wireNext p := by
  rw [wireAfter, List.foldlM_append]
  exact congrArg (· >>= _) h

/-- A command byte of a register is classified as the access it was made for (R95, R97). -/
theorem classifyCommand_commandByte (bank : Bank) (isWrite narrow : Bool) (h : bankValid bank = true) :
    classifyCommand (commandByte bank isWrite narrow) = .access bank isWrite narrow := by
  revert bank isWrite narrow
  decide

/-- A command phase is in the discipline, and an answered one is owed its data phase (R98, R135). -/
theorem wireAfter_command {t : List Event} {bank : Bank} {wr n : Bool} {owed : Option Bool} (a : Option Quad)
    (hb : bankValid bank = true) (h : wireAfter t = some (.idle owed)) :
    wireAfter (t ++ commandEvents bank wr n a) = some (.idle (a.map fun _ => n)) := by
  rw [wireAfter_append t _ h]
  cases a <;> simp [commandEvents, wireNext, classifyCommand_commandByte bank wr n hb, received, quadBytes]

/-- The data phase of an accepted command has the length its NARROW bit fixes (R84). -/
theorem wireAfter_data {t : List Event} {narrow : Bool} {tx : List Byte} (a : Option Quad)
    (htx : tx.length = if narrow then 1 else 4) (h : wireAfter t = some (.idle (some narrow))) :
    wireAfter (t ++ [.xfer tx (received a tx.length)]) = some (.idle none) := by
  have hlen : ∀ r ∈ received a tx.length, r.length = tx.length :=
    fun r hr => received_length (by rw [htx]; split <;> decide) hr
  simp only [wireAfter_append _ _ h, List.foldlM_cons, List.foldlM_nil, wireNext, if_pos (And.intro htx hlen)]
  rfl

/-- An exchange with command select deasserted is no command phase: it retains nothing (R23). -/
theorem retainNext_xfer_deasserted (tx : List Byte) (rx : Option (List Byte)) (b : Option Byte) :
    retainNext (.deasserted, b) (.xfer tx rx) = (.deasserted, b) := by
  obtain _ | _ | _ := rx <;> rfl

/-! ### Each move keeps the invariant -/

theorem Move.invariant {k : MoveKind} {s t : State} (h : Move k s t) (hs : Invariant s) : Invariant t := by
  obtain ⟨owed, hw, hp⟩ := hs.wireKept
  cases h with
  | commandFailed wr n hb =>
    exact { hs with
      selectRests := rfl
      pendingBank := nofun
      xfersTraced := by simp [hs.xfersTraced, commandEvents, xfersOf]
      readsTraced := by simp [hs.readsTraced, commandEvents, readsOf]
      enableTraced := by simp [hs.enableTraced, commandEvents, levelAfter_append, levelNext]
      selectTraced := by simp [commandEvents, levelAfter_append, levelNext]
      statusTraced := by simp [commandEvents, retainedAfter_append, hs.statusTraced, retainNext]
      wireKept := ⟨_, wireAfter_command none hb hw, nofun⟩ }
  | commandAnswered wr n q hb =>
    exact { hs with
      selectRests := rfl
      pendingBank := by rintro p ⟨⟩; exact hb
      xfersTraced := by simp [afterCommand, hs.xfersTraced, commandEvents, xfersOf]
      readsTraced := by simp [afterCommand, hs.readsTraced, commandEvents, readsOf]
      enableTraced := by simp [afterCommand, hs.enableTraced, commandEvents, levelAfter_append, levelNext]
      selectTraced := by simp [afterCommand, commandEvents, levelAfter_append, levelNext]
      statusTraced := by
        simp [afterCommand, commandEvents, retainedAfter_append, hs.statusTraced, retainNext, received, quadBytes]
      wireKept := ⟨_, wireAfter_command (some q) hb hw, by rintro p ⟨⟩; rfl⟩ }
  | dropPending => exact { hs with pendingBank := nofun, wireKept := ⟨owed, hw, nofun⟩ }
  | @data _ p e tx a hpend htx hx hr =>
    have rests := hs.selectRests
    exact { hs with
      pendingBank := nofun
      xfersTraced := by simp [hx, hs.xfersTraced, xfersOf]
      readsTraced := by simp [hr, hs.readsTraced, readsOf]
      enableTraced := by simp [hs.enableTraced, levelAfter_append, levelNext]
      selectTraced := by simp [hs.selectTraced, levelAfter_append, levelNext]
      statusTraced := by rw [retainedAfter_append, hs.statusTraced, rests]; exact retainNext_xfer_deasserted tx _ _
      wireKept := ⟨none, wireAfter_data a htx (hp p hpend ▸ hw), nofun⟩ }
  | faultRead =>
    exact { hs with
      xfersTraced := by simp [readLine, afterRead, hs.xfersTraced, xfersOf]
      readsTraced := by simp [readLine, afterRead, hs.readsTraced, readsOf]
      enableTraced := by simp [readLine, hs.enableTraced, levelAfter_append, levelNext]
      selectTraced := by simp [readLine, hs.selectTraced, levelAfter_append, levelNext]
      statusTraced := by simp [readLine, retainedAfter_append, hs.statusTraced, retainNext]
      wireKept := ⟨owed, by simp [readLine, wireAfter_append _ _ hw, wireNext], hp⟩ }
  | invalidated => exact { hs with cacheValidOnlyWhenActive := nofun }
  | cacheLoaded w ha => exact { hs with cacheValidOnlyWhenActive := fun _ => ha }
  | cacheWritten x => exact { hs with }
  | boardSet hb => exact { hs with boardNonNegative := hb }
  | poweredUp us =>
    exact { hs with
      enabledWhenActive := fun _ => rfl
      xfersTraced := by simp [hs.xfersTraced, xfersOf]
      readsTraced := by simp [hs.readsTraced, readsOf]
      enableTraced := by simp [levelAfter_append, levelNext]
      selectTraced := by simp [hs.selectTraced, levelAfter_append, levelNext]
      statusTraced := by simp [retainedAfter_append, hs.statusTraced, retainNext]
      wireKept := ⟨owed, by simp [wireAfter_append _ _ hw, wireNext], hp⟩ }
  | started w he => exact { hs with enabledWhenActive := fun _ => he, cacheValidOnlyWhenActive := fun _ => rfl }
  | gaveUp => exact { hs with enabledWhenActive := nofun, cacheValidOnlyWhenActive := nofun }
  | stopped =>
    exact { hs with
      enabledWhenActive := nofun
      cacheValidOnlyWhenActive := nofun
      xfersTraced := by simp [hs.xfersTraced, xfersOf]
      readsTraced := by simp [hs.readsTraced, readsOf]
      enableTraced := by simp [levelAfter_append, levelNext]
      selectTraced := by simp [hs.selectTraced, levelAfter_append, levelNext]
      statusTraced := by simp [retainedAfter_append, hs.statusTraced, retainNext]
      wireKept := ⟨owed, by simp [wireAfter_append _ _ hw, wireNext], hp⟩ }

end Sys2Proof.Machine

/-! Every operation as a sequence of moves with an answer. -/

namespace Sys2Proof.Machine

variable {α β : Type} {K : List MoveKind} {s t : State}

/-- Moves of the given kinds, one after the other. -/
def Moves (K : List MoveKind) : State → State → Prop :=
  Relation.ReflTransGen fun s t => ∃ k ∈ K, Move k s t

theorem Moves.refl (K : List MoveKind) (s : State) : Moves K s s := Relation.ReflTransGen.refl

theorem Moves.trans {u : State} (h : Moves K s t) (h' : Moves K t u) : Moves K s u := Relation.ReflTransGen.trans h h'

theorem Move.moves {k : MoveKind} (h : Move k s t) (hk : k ∈ K) : Moves K s t := .single ⟨k, hk, h⟩

/-- What every move of the given kinds keeps, the moves keep. -/
theorem Moves.preserves {P : State → Prop} (h : Moves K s t) (hP : ∀ k ∈ K, ∀ u v, Move k u v → P u → P v)
    (hs : P s) : P t := by
  induction h with
  | refl => exact hs
  | tail _ hm ih =>
    obtain ⟨k, hk, hm⟩ := hm
    exact hP k hk _ _ hm ih

theorem Moves.mono {K' : List MoveKind} (hK : K ⊆ K') (h : Moves K s t) : Moves K' s t :=
  h.preserves (fun _ hk _ _ hm hu => hu.trans (hm.moves (hK hk))) (.refl K' s)

/-! ### What the moves leave unchanged -/

theorem Move.params {k : MoveKind} (h : Move k s t) : t.params = s.params := by cases h <;> rfl

theorem Move.requests {k : MoveKind} (h : Move k s t) : t.requests = s.requests := by cases h <;> rfl

theorem Move.dsmState {k : MoveKind} (h : Move k s t) (hk : k ≠ .start ∧ k ≠ .stop) : t.dsmState = s.dsmState := by
  cases h <;> simp_all [afterCommand, readLine]

theorem Move.enable {k : MoveKind} (h : Move k s t) (hk : k ≠ .start ∧ k ≠ .stop) : t.enable = s.enable := by
  cases h <;> simp_all [afterCommand, readLine]

theorem Move.board {k : MoveKind} (h : Move k s t) (hk : k ≠ .board) : t.board = s.board := by
  cases h <;> simp_all [afterCommand, readLine]

/-- A move only appends to the trace (R12). -/
theorem Move.trace {k : MoveKind} (h : Move k s t) : ∃ es, t.trace = s.trace ++ es := by
  cases h with
  | commandFailed | commandAnswered | data => exact ⟨_, rfl⟩
  | faultRead | stopped => exact ⟨_, rfl⟩
  | poweredUp => exact ⟨_, List.append_assoc _ _ _⟩
  | dropPending | invalidated | cacheLoaded | cacheWritten | boardSet | started | gaveUp => exact ⟨[], by simp⟩

theorem Moves.params (h : Moves K s t) : t.params = s.params :=
  h.preserves (P := fun u => u.params = s.params) (fun _ _ _ _ hm hu => hm.params.trans hu) rfl

theorem Moves.requests (h : Moves K s t) : t.requests = s.requests :=
  h.preserves (P := fun u => u.requests = s.requests) (fun _ _ _ _ hm hu => hm.requests.trans hu) rfl

theorem Moves.dsmState (h : Moves K s t) (hK : ∀ k ∈ K, k ≠ .start ∧ k ≠ .stop) : t.dsmState = s.dsmState :=
  h.preserves (P := fun u => u.dsmState = s.dsmState) (fun k hk _ _ hm hu => (hm.dsmState (hK k hk)).trans hu) rfl

theorem Moves.enable (h : Moves K s t) (hK : ∀ k ∈ K, k ≠ .start ∧ k ≠ .stop) : t.enable = s.enable :=
  h.preserves (P := fun u => u.enable = s.enable) (fun k hk _ _ hm hu => (hm.enable (hK k hk)).trans hu) rfl

theorem Moves.board (h : Moves K s t) (hK : .board ∉ K) : t.board = s.board :=
  h.preserves (P := fun u => u.board = s.board)
    (fun _ hk _ _ hm hu => (hm.board (ne_of_mem_of_not_mem hk hK)).trans hu) rfl

theorem Moves.trace (h : Moves K s t) : ∃ es, t.trace = s.trace ++ es :=
  h.preserves (P := fun u => ∃ es, u.trace = s.trace ++ es)
    (fun _ _ _ _ hm ⟨es, hu⟩ => let ⟨es', hv⟩ := hm.trace; ⟨es ++ es', by rw [hv, hu, List.append_assoc]⟩) ⟨[], by simp⟩

/-- The manager's state is the same: cache, its validity, board scale, sequencer and enable line. -/
structure ManagerKept (s t : State) : Prop where
  cache : t.cache = s.cache
  cacheValid : t.cacheValid = s.cacheValid
  board : t.board = s.board
  dsmState : t.dsmState = s.dsmState
  enable : t.enable = s.enable

theorem ManagerKept.refl (s : State) : ManagerKept s s := ⟨rfl, rfl, rfl, rfl, rfl⟩

theorem ManagerKept.trans {u : State} (h : ManagerKept s t) (h' : ManagerKept t u) : ManagerKept s u :=
  ⟨h'.cache.trans h.cache, h'.cacheValid.trans h.cacheValid, h'.board.trans h.board, h'.dsmState.trans h.dsmState,
    h'.enable.trans h.enable⟩

theorem Move.managerKept (h : Move .wire s t) : ManagerKept s t := by cases h <;> exact ⟨rfl, rfl, rfl, rfl, rfl⟩

/-- On the wire alone nothing of the manager's state is written (R20). -/
theorem Moves.managerKept (h : Moves [.wire] s t) : ManagerKept s t :=
  h.preserves (fun _ hk _ _ hm hu => hu.trans (List.mem_singleton.1 hk ▸ hm).managerKept) (.refl s)

theorem Moves.invariant (h : Moves K s t) (hs : Invariant s) : Invariant t :=
  h.preserves (fun _ _ _ _ hm hu => hm.invariant hu) hs

/-! ### An operation as moves and an answer -/

/-- The kinds of error an operation can return: those of the checks, of a failed transfer, and of the gate (R271,
R272, R276). -/
def returnable (s : State) (k : ErrorKind) : Prop :=
  k = .invalidParameter ∨ k = .communicationError ∨ k = s.params.errNotActive

/-- An operation that has come to an end has made moves of the kinds in `K`, and answers a returnable error if any. -/
structure Ended (K : List MoveKind) (s : State) (p : State × Except ErrorKind α) : Prop where
  moves : Moves K s p.1
  error : ∀ k, p.2 = .error k → returnable s k

theorem Ended.mono {K' : List MoveKind} {p : State × Except ErrorKind α} (hK : K ⊆ K') (h : Ended K s p) :
    Ended K' s p :=
  ⟨h.moves.mono hK, h.error⟩

theorem ended_done (a : α) (h : Moves K s t) : Ended K s (done a t) := ⟨h, nofun⟩

theorem ended_raise {k : ErrorKind} (hk : returnable s k) (h : Moves K s t) :
    Ended K s (raise k t : State × Except ErrorKind α) :=
  ⟨h, by rintro _ ⟨⟩; exact hk⟩

theorem Ended.after {p : State × Except ErrorKind α} (h : Moves K s t) (h' : Ended K t p) : Ended K s p :=
  ⟨h.trans h'.moves, fun k hk => by simpa only [returnable, h.params] using h'.error k hk⟩

theorem Ended.andThen {p : State × Except ErrorKind α} {f : α → State → State × Except ErrorKind β} (h : Ended K s p)
    (hf : ∀ a, Ended K p.1 (f a p.1)) : Ended K s (andThen p f) := by
  obtain ⟨u, r⟩ := p
  cases r with
  | error k => exact ⟨h.moves, by rintro _ ⟨⟩; exact h.error k rfl⟩
  | ok a => exact (hf a).after h.moves

theorem ended_whenActive {f : State → State × Except ErrorKind α} (hf : s.dsmState = .active → Ended K s (f s)) :
    Ended K s (whenActive f s) := by
  cases h : s.dsmState with
  | uninitialized =>
    rw [whenActive_uninitialized h]
    exact ended_raise (.inr (.inr rfl)) (.refl K s)
  | active =>
    rw [whenActive_active h]
    exact hf h

theorem ended_whenIndex {ok : Bool} {f : State → State × Except ErrorKind α} (hf : Ended K s (f s)) :
    Ended K s (whenIndex ok f s) := by
  cases ok with
  | false => exact ended_raise (.inl rfl) (.refl K s)
  | true => exact hf

/-! ### The engine as moves -/

/-- A data phase for a command of this width. -/
def IsPhase (narrow : Bool) (phase : State → State × Option α) : Prop :=
  ∀ u p, u.pending = some p → p.narrow = narrow → Move .wire u (phase u).1

theorem isPhase_sendData32 (w : Word) : IsPhase false (sendData32 w) :=
  fun _ _ hu hp => .data _ hu (by rw [hp]; rfl) rfl rfl

theorem isPhase_receiveData32 : IsPhase false receiveData32 :=
  fun _ _ hu hp => .data _ hu (by rw [hp]; rfl) rfl rfl

theorem isPhase_sendData8 (b : Byte) : IsPhase true (sendData8 b) :=
  fun _ _ hu hp => .data _ hu (by rw [hp]; rfl) rfl rfl

theorem isPhase_receiveData8 : IsPhase true receiveData8 :=
  fun _ _ hu hp => .data _ hu (by rw [hp]; rfl) rfl rfl

theorem isPhase_receiveGiven32 (q : Quad) : IsPhase false (receiveGiven32 q) :=
  fun _ _ hu hp => .data (some q) hu (by rw [hp]; rfl) rfl rfl

theorem isPhase_receiveGiven8 (b : Byte) : IsPhase true (receiveGiven8 b) :=
  fun _ _ hu hp => .data (some ⟨b, 0, 0, 0⟩) hu (by rw [hp]; rfl) rfl rfl

theorem writeCommand_moves (bank : Bank) (wr n : Bool) (s : State) : Moves [.wire] s (writeCommand bank wr n s).1 := by
  cases hb : bankValid bank with
  | false =>
    rw [writeCommand_invalidBank hb]
    exact .refl _ s
  | true =>
    cases ha : answerAt s.env 0 with
    | none =>
      rw [writeCommand_failed hb ha]
      exact (Move.commandFailed wr n hb).moves (List.mem_singleton_self _)
    | some q =>
      rw [writeCommand_answered hb ha]
      exact (Move.commandAnswered wr n q hb).moves (List.mem_singleton_self _)

/-- A register transaction moves on the wire alone. -/
theorem ended_transact {narrow : Bool} {phase : State → State × Option α} (hphase : IsPhase narrow phase) (bank : Bank)
    (wr : Bool) (s : State) : Ended [.wire] s (transact bank wr narrow phase s) := by
  have one {u v : State} (h : Move .wire u v) : Moves [.wire] u v := h.moves (List.mem_singleton_self _)
  obtain ⟨hb, e⟩ | ⟨hb, ha, e⟩ | ⟨q, hb, ha, hq, e⟩ | ⟨q, hb, hq, e⟩ := transact_cases bank wr narrow phase s
  · exact e ▸ ended_raise (.inl rfl) (.refl _ s)
  · exact e ▸ ended_raise (.inr (.inl rfl)) (one (.commandFailed wr narrow hb))
  · exact e ▸ ended_raise (.inr (.inl rfl)) ((one (.commandAnswered wr narrow q hb)).trans (one .dropPending))
  · rw [e]
    refine ⟨(one (.commandAnswered wr narrow q hb)).trans (one (hphase _ _ rfl rfl)), fun k hk => ?_⟩
    cases hd : (phase (afterCommand bank wr narrow q s)).2 with
    | none =>
      rw [hd] at hk
      cases hk
      exact .inr (.inl rfl)
    | some a =>
      rw [hd] at hk
      cases hk

theorem ended_writeReg32 (bank : Bank) (w : Word) (s : State) : Ended [.wire] s (writeReg32 bank w s) :=
  ended_transact (isPhase_sendData32 w) bank true s

theorem ended_readReg32 (bank : Bank) (s : State) : Ended [.wire] s (readReg32 bank s) :=
  ended_transact isPhase_receiveData32 bank false s

theorem ended_writeReg8 (bank : Bank) (b : Byte) (s : State) : Ended [.wire] s (writeReg8 bank b s) :=
  ended_transact (isPhase_sendData8 b) bank true s

theorem ended_readReg8 (bank : Bank) (s : State) : Ended [.wire] s (readReg8 bank s) :=
  ended_transact isPhase_receiveData8 bank false s

theorem bypass_moves (bank : Bank) (wr : Bool) (s : State) : Moves [.invalidate] s (bypass bank wr s) := by
  unfold bypass
  split
  · exact Move.invalidated.moves (List.mem_singleton_self _)
  · exact .refl _ s

/-! ### The manager as moves -/

/-- The kinds of move of an operation: `initializeDevice`, `deinitialize` and `setBoardScale` have their own, the others
run on the wire and on the cache. -/
def movesOf : Instr → List MoveKind
  | .initializeDevice => [.wire, .start]
  | .deinitialize => [.wire, .cache, .stop]
  | .setBoardScale _ => [.board]
  | _ => [.wire, .invalidate, .cache]

theorem ended_ensureCache (h : s.dsmState = .active) : Ended [.wire, .cache] s (ensureCache s) := by
  have hr := ended_readReg32 0 s
  cases hv : s.cacheValid with
  | true =>
    rw [ensureCache_valid hv]
    exact ended_done () (.refl _ s)
  | false =>
    have e : ensureCache s = andThen (readReg32 0 s) fun w s' => done () (loadCache w s') := by simp [ensureCache, hv]
    rw [e]
    exact (hr.mono (by simp)).andThen fun w =>
      ended_done () ((Move.cacheLoaded w (hr.moves.managerKept.dsmState.trans h)).moves (by simp))

theorem ended_setChannelsOn (mask : Byte) (s : State) : Ended [.wire, .cache] s (setChannelsOn mask s) := by
  refine ended_whenActive fun _ => ((ended_writeReg8 0 mask s).mono (by simp)).andThen fun _ => ended_done () ?_
  unfold noteChannelsOn
  split
  · exact (Move.cacheWritten _).moves (by simp)
  · exact .refl _ _

theorem ended_configureChannel (ch : Nat) (cfg : ChannelConfig) (s : State) :
    Ended [.wire, .cache] s (configureChannel ch cfg s) := by
  refine ended_whenIndex (ended_whenActive fun h => ?_)
  cases validateChannel cfg s.board with
  | error _ => exact ended_raise (.inl rfl) (.refl _ s)
  | ok _ =>
    refine (ended_ensureCache h).andThen fun _ => ?_
    generalize (ensureCache s).1 = u
    cases encodeChannel u.params cfg (contextOf u) u.board with
    | error _ => exact ended_raise (.inl rfl) (.refl _ u)
    | ok w => exact (ended_writeReg32 _ w u).mono (by simp)

theorem ended_getChannelConfig (ch : Nat) (s : State) : Ended [.wire, .cache] s (getChannelConfig ch s) :=
  ended_whenIndex (ended_whenActive fun h => (ended_ensureCache h).andThen fun _ =>
    ((ended_readReg32 _ _).mono (by simp)).andThen fun _ => ended_done _ (.refl _ _))

theorem ended_setChannelEnabled (ch : Nat) (on : Bool) (s : State) :
    Ended [.wire, .cache] s (setChannelEnabled ch on s) :=
  ended_whenIndex (ended_whenActive fun h => (ended_ensureCache h).andThen fun _ => ended_setChannelsOn _ _)

theorem ended_setPairMode (pair : Nat) (mode : PairMode) (s : State) :
    Ended [.wire, .cache] s (setPairMode pair mode s) := by
  refine ended_whenIndex (ended_whenActive fun h => ?_)
  split
  · exact ended_raise (.inl rfl) (.refl _ s)
  · refine (ended_ensureCache h).andThen fun _ => ?_
    split
    · exact ended_raise (.inl rfl) (.refl _ _)
    · exact ((ended_writeReg32 0 _ _).mono (by simp)).andThen fun _ =>
        ended_done () ((Move.cacheWritten _).moves (by simp))

theorem ended_readStatus (s : State) : Ended [.wire, .cache] s (readStatus s) :=
  ended_whenActive fun h => ((ended_readReg32 0 s).mono (by simp)).andThen fun w =>
    ended_done _ ((Move.cacheLoaded w ((ended_readReg32 0 s).moves.managerKept.dsmState.trans h)).moves (by simp))

theorem ended_readFaults (s : State) : Ended [.wire] s (readFaults s) :=
  ended_whenActive fun _ => (ended_readReg32 9 s).andThen fun _ => ended_done _ (.refl _ _)

theorem ended_getDpmConfig (s : State) : Ended [.wire] s (getDpmConfig s) :=
  ended_whenActive fun _ => (ended_readReg32 10 s).andThen fun _ => ended_done _ (.refl _ _)

theorem ended_setDpmConfig (d : DpmConfig) (s : State) : Ended [.wire] s (setDpmConfig d s) :=
  ended_whenActive fun _ => ended_writeReg32 10 _ s

theorem ended_rawWriteRegister (bank : Bank) (w : Word) (s : State) :
    Ended [.invalidate, .wire] s (rawWriteRegister bank w s) :=
  ended_whenIndex (ended_whenActive fun _ =>
    ((ended_writeReg32 bank w _).mono (by simp)).after ((bypass_moves bank true s).mono (by simp)))

theorem ended_rawReadRegister (bank : Bank) (s : State) : Ended [.wire] s (rawReadRegister bank s) :=
  ended_whenIndex (ended_whenActive fun _ => ended_readReg32 bank s)

theorem nonNegative_le {v : EngValue} {q : Rat} (h : nonNegative v = some q) : 0 ≤ q := by
  cases v with
  | nonFinite => cases h
  | finite x =>
    simp only [nonNegative, Option.ite_none_right_eq_some, Option.some.injEq] at h
    obtain ⟨hx, rfl⟩ := h
    exact hx

theorem ceilingOf_nonNegative {o : Option EngValue} {c : Option Rat} {m : Rat} (h : ceilingOf o = some c) (hm : m ∈ c) :
    0 ≤ m := by
  cases o with
  | none => cases h; cases hm
  | some v =>
    obtain ⟨q, hq, rfl⟩ := Option.map_eq_some_iff.1 h
    cases hm
    exact nonNegative_le hq

/-- What `setBoardScale` takes has no negative value (R234). -/
theorem boardOf_nonNegative {b : BoardRequest} {v : BoardScale} (h : boardOf b = some v) : BoardNonNegative v := by
  unfold boardOf at h
  split at h
  · next f i d hf hi hd =>
    cases h
    exact ⟨nonNegative_le hf, fun _ hm => ceilingOf_nonNegative hi hm, fun _ hm => ceilingOf_nonNegative hd hm⟩
  · cases h

theorem ended_setBoardScale (b : BoardRequest) (s : State) : Ended [.board] s (setBoardScale b s) := by
  unfold setBoardScale
  cases h : boardOf b with
  | none => exact ended_raise (.inl rfl) (.refl _ s)
  | some v => exact ended_done () ((Move.boardSet (boardOf_nonNegative h)).moves (by simp))

theorem ended_initAttempt (s : State) : Ended [.wire] s (initAttempt s) :=
  (ended_readReg32 0 s).andThen fun _ => (ended_writeReg32 0 _ _).andThen fun _ => ended_readReg32 0 _

theorem ended_initLoop (n : Nat) : ∀ s : State, s.enable = .asserted → Ended [.wire, .start] s (initLoop n s) := by
  induction n with
  | zero => exact fun s _ => ended_raise (.inr (.inl rfl)) (Move.gaveUp.moves (by simp))
  | succ n ih =>
    intro s hs
    have ha := ended_initAttempt s
    have hs' := ha.moves.managerKept.enable.trans hs
    have hm : Moves [.wire, .start] s (initAttempt s).1 := ha.moves.mono (by simp)
    cases h : (initAttempt s).2 with
    | error _ =>
      have e : initLoop (n + 1) s = initLoop n (initAttempt s).1 := by simp only [initLoop, h]
      exact e ▸ (ih _ hs').after hm
    | ok w =>
      have e : initLoop (n + 1) s = done () ((loadCache w (initAttempt s).1).withDsm .active) := by
        simp only [initLoop, h]
      exact e ▸ ended_done () (hm.trans ((Move.started w hs').moves (by simp)))

theorem ended_initialise (s : State) : Ended [.wire, .start] s (initialise s) :=
  (ended_initLoop _ _ rfl).after ((Move.poweredUp _).moves (by simp))

theorem ended_deinitialise (s : State) : Ended [.wire, .cache, .stop] s (deinitialise s) := by
  have hstop (u : State) : Moves [.wire, .cache, .stop] u
      (((setLine .enable .deasserted u).withDsm .uninitialized).withCacheValid false) := Move.stopped.moves (by simp)
  unfold deinitialise
  cases h : s.dsmState with
  | uninitialized => exact ⟨hstop s, nofun⟩
  | active =>
    have hd : Ended [.wire, .cache, .stop] s (shutDown s) :=
      ((ended_ensureCache h).mono (by simp)).andThen fun _ => (ended_writeReg32 0 _ _).mono (by simp)
    exact ⟨hd.moves.trans (hstop _), hd.error⟩

/-! ### Every operation as moves and a result -/

/-- When an operation completes it has made its moves and written its result, and an error it answers is returnable. -/
def Completes (K : List MoveKind) (s : State) (r : StepResult) : Prop :=
  ∀ t, r = .next t → ∃ u a, t = u.withResult a ∧ Moves K s u ∧ ∀ k, a = .err k → returnable s k

theorem Completes.mono {K' : List MoveKind} {r : StepResult} (h : Completes K s r) (hK : K ⊆ K') : Completes K' s r :=
  fun t ht => let ⟨u, a, e, hm, ha⟩ := h t ht; ⟨u, a, e, hm.mono hK, ha⟩

theorem completes_next {a : OpResult} {u : State} (hm : Moves K s u) (ha : ∀ k, a = .err k → returnable s k) :
    Completes K s (.next (u.withResult a)) := by
  rintro _ ⟨⟩
  exact ⟨u, a, rfl, hm, ha⟩

theorem resultOf_err {value : α → Value} {r : Except ErrorKind α} {k : ErrorKind} (h : resultOf value r = .err k) :
    r = .error k := by
  cases r with
  | error _ => cases h; rfl
  | ok _ => cases h

theorem Ended.completes {p : State × Except ErrorKind α} (h : Ended K s p) (value : α → Value) :
    Completes K s (deliver value p) :=
  completes_next h.moves fun k hk => h.error k (resultOf_err hk)

/-- The pending command is the one of a data phase (R24, R128). -/
theorem pendingMatches_iff {wr n : Bool} : pendingMatches wr n s = true ↔ ∃ bank, s.pending = some ⟨bank, wr, n⟩ := by
  cases hp : s.pending with
  | none => simp [pendingMatches, hp]
  | some p =>
    obtain ⟨bank, wr', n'⟩ := p
    simp [pendingMatches, hp]

theorem completes_dataPhase {wr narrow : Bool} {phase : State → State × Option α} (hphase : IsPhase narrow phase)
    (value : α → Value) (s : State) : Completes [.wire] s (dataPhase wr narrow value phase s) := by
  cases hm : pendingMatches wr narrow s with
  | false => simp [dataPhase, hm, Completes]
  | true =>
    rw [dataPhase_of_pendingMatches hm]
    obtain ⟨bank, hp⟩ := pendingMatches_iff.1 hm
    refine completes_next ((hphase s _ hp rfl).moves (by simp)) fun k hk => ?_
    cases hd : (phase s).2 <;> simp [hd, phaseResult] at hk

/-- A computation whose only error is `InvalidParameter` (R14, R197). -/
def OnlyInvalid (r : Except ErrorKind α) : Prop := ∀ k, r = .error k → k = .invalidParameter

theorem onlyInvalid_codeFromMa (full ma : EngValue) : OnlyInvalid (codeFromMa full ma) := by
  rintro k hk
  unfold codeFromMa at hk
  split at hk
  · split at hk <;> cases hk
    rfl
  · cases hk
    rfl

theorem onlyInvalid_dutyLimits (p : Config.Params) (base : ClockBase) (sel : Sel2) (src : Bool) :
    OnlyInvalid (dutyLimits p base sel src) := by
  rintro k hk
  unfold dutyLimits at hk
  split at hk
  · cases hk
    rfl
  · split at hk
    · cases hk
    · split at hk <;> cases hk

theorem onlyInvalid_codeFromDuty (p : Config.Params) (pct : EngValue) (base : ClockBase) (sel : Sel2) (src : Bool) :
    OnlyInvalid (codeFromDuty p pct base sel src) := by
  rintro k hk
  unfold codeFromDuty at hk
  split at hk
  · cases hk
    rfl
  · split at hk
    · next e he =>
      cases hk
      exact onlyInvalid_dutyLimits p base sel src k he
    · cases hk

theorem onlyInvalid_codeFromMs (ms : EngValue) (khz : Nat) : OnlyInvalid (codeFromMs ms khz) := by
  rintro k hk
  cases ms with
  | nonFinite => cases hk; rfl
  | finite q =>
    simp only [codeFromMs] at hk
    split at hk
    · cases hk
    · split at hk <;> cases hk

theorem onlyInvalid_quantizeChannel (p : Config.Params) (cfg : ChannelConfig) (ctx : ConvContext) (board : BoardScale) :
    OnlyInvalid (quantizeChannel p cfg ctx board) := by
  rintro k hk
  unfold quantizeChannel at hk
  split at hk
  · dsimp only at hk
    split at hk
    · cases hk
      rfl
    · split at hk <;> cases hk
      rfl
  · cases hk
    rfl

theorem onlyInvalid_encodeChannel (p : Config.Params) (cfg : ChannelConfig) (ctx : ConvContext) (board : BoardScale) :
    OnlyInvalid (encodeChannel p cfg ctx board) := by
  rintro k hk
  unfold encodeChannel at hk
  split at hk
  · next e he =>
    cases hk
    exact onlyInvalid_quantizeChannel p cfg ctx board k he
  · cases hk

theorem onlyInvalid_validateChannel (cfg : ChannelConfig) (board : BoardScale) :
    OnlyInvalid (validateChannel cfg board) := by
  rintro k hk
  unfold validateChannel at hk
  repeat' split at hk
  all_goals cases hk
  all_goals rfl

theorem completes_value (v : Value) (s : State) : Completes K s (deliverPure (.ok v) s) :=
  completes_next (.refl K s) nofun

theorem OnlyInvalid.completes {r : Except ErrorKind α} (h : OnlyInvalid r) (value : α → Value) (s : State) :
    Completes K s (deliverPure (resultOf value r) s) :=
  completes_next (.refl K s) fun k hk => .inl (h k (resultOf_err hk))

/-- The command phase that the host issues, after its invalidation of the cache (R121, R243). -/
theorem completes_writeCommand (bank : Bank) (wr n : Bool) (s : State) :
    Completes [.wire] (bypass bank wr s) (execWriteCommand bank wr n s) := by
  refine completes_next (writeCommand_moves bank wr n _) fun k hk => .inl ?_
  generalize (writeCommand bank wr n (bypass bank wr s)).2 = r at hk
  cases r with
  | ok c => cases hk
  | error e => cases e <;> cases hk; rfl

theorem Completes.bypassed {bank : Bank} {wr : Bool} {r : StepResult} (h : Completes [.wire] (bypass bank wr s) r) :
    Completes [.invalidate, .wire] s r := by
  intro t ht
  obtain ⟨u, a, e, hm, ha⟩ := h t ht
  have hb := bypass_moves bank wr s
  exact ⟨u, a, e, (hb.mono (by simp)).trans (hm.mono (by simp)), fun k hk => by
     simpa only [returnable, hb.params] using ha k hk⟩

/-- Every operation: its moves, then its result. -/
theorem exec_completes (i : Instr) (s : State) : Completes (movesOf i) s (exec i s) := by
  have wires : [MoveKind.wire] ⊆ [.wire, .invalidate, .cache] := by simp
  have wireCaches : [MoveKind.wire, .cache] ⊆ [.wire, .invalidate, .cache] := by simp
  have bypasses : [MoveKind.invalidate, .wire] ⊆ [.wire, .invalidate, .cache] := by simp
  cases i with
  | rd32 bank => exact ((ended_readReg32 bank s).completes _).mono wires
  | wr32 bank w => exact ((ended_writeReg32 bank w _).completes _).bypassed.mono bypasses
  | rd8 bank => exact ((ended_readReg8 bank s).completes _).mono wires
  | wr8 bank b => exact ((ended_writeReg8 bank b _).completes _).bypassed.mono bypasses
  | writeReg32 bank w => exact ((ended_writeReg32 bank w _).completes _).bypassed.mono bypasses
  | readReg32 bank => exact ((ended_readReg32 bank s).completes _).mono wires
  | writeReg8 bank b => exact ((ended_writeReg8 bank b _).completes _).bypassed.mono bypasses
  | readReg8 bank => exact ((ended_readReg8 bank s).completes _).mono wires
  | writeCommand bank wr n => exact (completes_writeCommand bank wr n s).bypassed.mono bypasses
  | data32w q => exact (completes_dataPhase (isPhase_sendData32 _) _ s).mono wires
  | data32r q => exact (completes_dataPhase (isPhase_receiveGiven32 q) _ s).mono wires
  | data8w b => exact (completes_dataPhase (isPhase_sendData8 b) _ s).mono wires
  | data8r b => exact (completes_dataPhase (isPhase_receiveGiven8 b) _ s).mono wires
  | writeData32 w => exact (completes_dataPhase (isPhase_sendData32 w) _ s).mono wires
  | readData32 => exact (completes_dataPhase isPhase_receiveData32 _ s).mono wires
  | writeData8 b => exact (completes_dataPhase (isPhase_sendData8 b) _ s).mono wires
  | readData8 => exact (completes_dataPhase isPhase_receiveData8 _ s).mono wires
  | stat8 | regStatus | regCfgCh | regFault | regCfgDpm | getLastStatus | packStatus | unpackStatus | packChannel
  | unpackChannel | packFault | unpackFault | packDpm | unpackDpm | decodeChannel | chopKhz | maFromCode | dutyFromCode
  | msFromCode | dutyCodeLinear | dequantizeChannel => exact completes_value _ s
  | encodeChannel cfg ctx board => exact (onlyInvalid_encodeChannel _ cfg ctx board).completes _ s
  | codeFromMa full ma => exact (onlyInvalid_codeFromMa full ma).completes _ s
  | codeFromDuty pct base sel src => exact (onlyInvalid_codeFromDuty _ pct base sel src).completes _ s
  | dutyLimits base sel src => exact (onlyInvalid_dutyLimits _ base sel src).completes _ s
  | codeFromMs ms khz => exact (onlyInvalid_codeFromMs ms khz).completes _ s
  | quantizeChannel cfg ctx board => exact (onlyInvalid_quantizeChannel _ cfg ctx board).completes _ s
  | validateChannel cfg board => exact (onlyInvalid_validateChannel cfg board).completes _ s
  | initializeDevice => exact (ended_initialise s).completes _
  | deinitialize => exact (ended_deinitialise s).completes _
  | configureChannel ch cfg => exact ((ended_configureChannel ch cfg s).completes _).mono wireCaches
  | getChannelConfig ch => exact ((ended_getChannelConfig ch s).completes _).mono wireCaches
  | setChannelsOn mask => exact ((ended_setChannelsOn mask s).completes _).mono wireCaches
  | setChannelEnabled ch on => exact ((ended_setChannelEnabled ch on s).completes _).mono wireCaches
  | setPairMode pair mode => exact ((ended_setPairMode pair mode s).completes _).mono wireCaches
  | readStatus => exact ((ended_readStatus s).completes _).mono wireCaches
  | readFaults => exact ((ended_readFaults s).completes _).mono wires
  | getDpmConfig => exact ((ended_getDpmConfig s).completes _).mono wires
  | setDpmConfig d => exact ((ended_setDpmConfig d s).completes _).mono wires
  | setBoardScale b => exact (ended_setBoardScale b s).completes _
  | rawWriteRegister bank w => exact ((ended_rawWriteRegister bank w s).completes _).mono bypasses
  | rawReadRegister bank => exact ((ended_rawReadRegister bank s).completes _).mono wires
  | readFaultLine => exact completes_next (Move.faultRead.moves (by simp [movesOf])) nofun
  | ensureCache => exact ((ended_whenActive fun h => ended_ensureCache h).completes _).mono wireCaches

end Sys2Proof.Machine

/-! What follows for every operation and every step, from the moves it is made of. -/

namespace Sys2Proof.Machine

variable {s t : State} {i : Instr}

/-- A step idles, or runs a decoded request (R5). -/
theorem step_cases (h : step s = .next t) :
    t = s ∨ ∃ i rest, exec i (s.withRequests rest) = .next t := by
  unfold step at h
  split at h
  · cases h
    exact .inl rfl
  · split at h
    · exact .inr ⟨_, _, h⟩
    · cases h

theorem Invariant.withRequests (hs : Invariant s) (rs : List Frame) : Invariant (s.withRequests rs) := { hs with }

theorem Invariant.withResult (hs : Invariant s) (r : OpResult) : Invariant (s.withResult r) := { hs with }

/-- Settles O14: nothing has happened yet. -/
theorem invariantHoldsAtReset : Obligations.InvariantHoldsAtReset where
  selectRests := rfl
  pendingBank := nofun
  enabledWhenActive := nofun
  cacheValidOnlyWhenActive := nofun
  boardNonNegative := ⟨le_refl 0, nofun, nofun⟩
  xfersTraced := rfl
  readsTraced := rfl
  enableTraced := rfl
  selectTraced := rfl
  statusTraced := rfl
  wireKept := ⟨none, rfl, nofun⟩

/-- Settles O15: a step is a sequence of moves, and each keeps the invariant. -/
theorem stepKeepsInvariant : Obligations.StepKeepsInvariant := by
  intro s t hs h
  obtain rfl | ⟨i, rest, h⟩ := step_cases h
  · exact hs
  · obtain ⟨u, r, rfl, hm, -⟩ := exec_completes i _ t h
    exact (hm.invariant (hs.withRequests rest)).withResult r

/-- Settles O16: no move changes a parameter, and each move only appends to the trace. -/
theorem stepAppendsToTrace : Obligations.StepAppendsToTrace := by
  intro s t h
  obtain rfl | ⟨i, rest, h⟩ := step_cases h
  · exact ⟨rfl, [], by simp⟩
  · obtain ⟨u, r, rfl, hm, -⟩ := exec_completes i _ t h
    exact ⟨hm.params, hm.trace⟩

/-- Settles O17: an error that is returned is `InvalidParameter`, `CommunicationError` or `ERR_NOT_ACTIVE`. -/
theorem reservedKindsNeverReturned : Obligations.ReservedKindsNeverReturned := by
  intro i s t h hh ht
  obtain ⟨u, r, rfl, -, hr⟩ := exec_completes i s t h
  have never {k : ErrorKind} (hi : k ≠ .invalidParameter) (hc : k ≠ .communicationError)
      (hp : s.params.errNotActive ≠ k) : some r ≠ some (.err k) := by
    rintro ⟨⟩
    obtain h | h | h := hr k rfl
    · exact hi h
    · exact hc h
    · exact hp h.symm
  exact ⟨never nofun nofun hh, never nofun nofun ht⟩

/-- How the attempts of `initializeDevice` end (R221). -/
theorem initLoop_ends (n : Nat) : ∀ s : State,
    ((initLoop n s).2 = .ok () ∧ (initLoop n s).1.dsmState = .active) ∨
    ((initLoop n s).2 = .error .communicationError ∧ (initLoop n s).1.dsmState = .uninitialized) := by
  induction n with
  | zero => exact fun s => .inr ⟨rfl, rfl⟩
  | succ n ih =>
    intro s
    obtain ⟨t, hf⟩ | ⟨w, t, hc⟩ := attempt_cases s
    · rw [initLoop_fails hf]
      exact ih t
    · rw [initLoop_completes hc]
      exact .inl ⟨rfl, rfl⟩

theorem movesOf_of_running (hi : i ≠ .initializeDevice) (hd : i ≠ .deinitialize) :
    ∀ k ∈ movesOf i, k ≠ .start ∧ k ≠ .stop := by
  unfold movesOf
  split
  · exact absurd rfl hi
  · exact absurd rfl hd
  · simp
  · simp

theorem movesOf_keeps_board (hb : ∀ b, i ≠ .setBoardScale b) : .board ∉ movesOf i := by
  unfold movesOf
  split
  · simp
  · simp
  · exact absurd rfl (hb _)
  · simp

theorem exec_initializeDevice (s : State) : exec .initializeDevice s = deliver (fun _ => .unit) (initialise s) := rfl

theorem exec_deinitialize (s : State) : exec .deinitialize s = deliver (fun _ => .unit) (deinitialise s) := rfl

/-- Settles O18: every other operation is made of moves that do not write the sequencer, and the attempts of
`initializeDevice` end in one of two ways. -/
theorem sequencerWrittenByTwoOperations : Obligations.SequencerWrittenByTwoOperations := by
  intro i s t h
  refine ⟨fun hi hd => ?_, ?_, ?_⟩
  · obtain ⟨u, r, rfl, hm, -⟩ := exec_completes i s t h
    exact hm.dsmState (movesOf_of_running hi hd)
  · rintro rfl
    cases h
    obtain ⟨hr, hs⟩ | ⟨hr, hs⟩ :=
      initLoop_ends Config.initAttempts (delay Config.powerUpDelayUs (setLine .enable .asserted s))
    · exact .inl ⟨by rw [withResult_result, initialise, hr]; rfl, hs⟩
    · exact .inr ⟨by rw [withResult_result, initialise, hr]; rfl, hs⟩
  · rintro rfl
    cases h
    rfl

/-- Settles O19: no move of another operation writes the enable line or the board scale. -/
theorem enableAndBoardWrittenByTheirOperations : Obligations.EnableAndBoardWrittenByTheirOperations := by
  intro i s t h
  obtain ⟨u, r, rfl, hm, -⟩ := exec_completes i s t h
  refine ⟨fun hi hd => hm.enable (movesOf_of_running hi hd), fun hb => hm.board (movesOf_keeps_board hb),
    hm.requests, r, rfl⟩

/-! ### The engine and the manager's state -/

/-- What an engine operation leaves of the manager's state, when it invalidates the cache in case of a write
of bank 0. -/
theorem managerKept_of_bypassed {bank : Bank} {wr : Bool} {r : StepResult} (h : Completes [.wire] (bypass bank wr s) r)
    (hr : r = .next t) : ManagerKept (bypass bank wr s) t := by
  obtain ⟨u, a, rfl, hm, -⟩ := h t hr
  exact hm.managerKept.trans ⟨rfl, rfl, rfl, rfl, rfl⟩

theorem bypass_read (bank : Bank) (s : State) : bypass bank false s = s := by simp [bypass]

/-- What an operation of the engine or of the wire does: the invalidation of the cache where it is a write of bank 0
that the host issues, among `writes`, and then moves on the wire alone (R20, R243). -/
def EngineRun (writes : List Instr) (s : State) (i : Instr) : Prop :=
  ∃ bank wr, Completes [.wire] (bypass bank wr s) (exec i s) ∧ (wr = true ∧ bank = 0 ↔ i ∈ writes)

theorem engineRun_of_read {writes : List Instr} (h : Completes [.wire] s (exec i s)) (hi : i ∉ writes) :
    EngineRun writes s i :=
  ⟨0, false, by rwa [bypass_read], by simp [hi]⟩

/-- The operations of the engine and of the wire. -/
theorem engineRun {bank : Bank} {w : Word} {b : Byte} {q : Quad} {wr n : Bool}
    (hi : i ∈ [.rd32 bank, .wr32 bank w, .rd8 bank, .wr8 bank b, .stat8 b, .data32w q, .data32r q, .data8w b, .data8r b,
      .writeCommand bank wr n, .writeData32 w, .readData32, .writeData8 b, .readData8, .getLastStatus,
      .writeReg32 bank w, .readReg32 bank, .writeReg8 bank b, .readReg8 bank]) :
    EngineRun [.wr32 0 w, .wr8 0 b, .writeCommand 0 true n, .writeReg32 0 w, .writeReg8 0 b] s i := by
  simp only [List.mem_cons, List.not_mem_nil, or_false] at hi
  obtain rfl | rfl | rfl | rfl | rfl | rfl | rfl | rfl | rfl | rfl | rfl | rfl | rfl | rfl | rfl | rfl | rfl | rfl |
    rfl := hi
  · exact engineRun_of_read ((ended_readReg32 bank s).completes _) (by simp)
  · exact ⟨bank, true, (ended_writeReg32 bank w _).completes _, by simp⟩
  · exact engineRun_of_read ((ended_readReg8 bank s).completes _) (by simp)
  · exact ⟨bank, true, (ended_writeReg8 bank b _).completes _, by simp⟩
  · exact engineRun_of_read (completes_value _ s) (by simp)
  · exact engineRun_of_read (completes_dataPhase (isPhase_sendData32 _) _ s) (by simp)
  · exact engineRun_of_read (completes_dataPhase (isPhase_receiveGiven32 q) _ s) (by simp)
  · exact engineRun_of_read (completes_dataPhase (isPhase_sendData8 b) _ s) (by simp)
  · exact engineRun_of_read (completes_dataPhase (isPhase_receiveGiven8 b) _ s) (by simp)
  · exact ⟨bank, wr, completes_writeCommand bank wr n s, by simp [and_comm]⟩
  · exact engineRun_of_read (completes_dataPhase (isPhase_sendData32 w) _ s) (by simp)
  · exact engineRun_of_read (completes_dataPhase isPhase_receiveData32 _ s) (by simp)
  · exact engineRun_of_read (completes_dataPhase (isPhase_sendData8 b) _ s) (by simp)
  · exact engineRun_of_read (completes_dataPhase isPhase_receiveData8 _ s) (by simp)
  · exact engineRun_of_read (completes_value _ s) (by simp)
  · exact ⟨bank, true, (ended_writeReg32 bank w _).completes _, by simp⟩
  · exact engineRun_of_read ((ended_readReg32 bank s).completes _) (by simp)
  · exact ⟨bank, true, (ended_writeReg8 bank b _).completes _, by simp⟩
  · exact engineRun_of_read ((ended_readReg8 bank s).completes _) (by simp)

/-- Settles O20: before the moves on the wire, which keep the manager's state, stands the invalidation alone. -/
theorem engineLeavesManagerState : Obligations.EngineLeavesManagerState := by
  intro bank w b q wr n i s t hi h
  obtain ⟨bank', wr', hc, hw⟩ := engineRun (s := s) hi
  have kept := managerKept_of_bypassed hc h
  have valid := kept.cacheValid.trans (bypass_cacheValid s bank' wr')
  exact ⟨by simp [kept.cache], by simp [kept.board], by simp [kept.dsmState], by simp [kept.enable],
    fun hi => valid.trans (if_pos (hw.2 hi)), fun hi => valid.trans (if_neg (mt hw.1 hi))⟩

/-! ### Refusals -/

/-- A data phase is refused exactly without its command (R128). -/
theorem dataPhase_refused_iff {α : Type} {wr n : Bool} {value : α → Value} {phase : State → State × Option α}
    {r : Refusal} :
    dataPhase wr n value phase s = .refused r ↔ r = .protocolViolation ∧ pendingMatches wr n s = false := by
  cases hm : pendingMatches wr n s <;> simp [dataPhase, hm, eq_comm]

/-- The data-phase operations, with their direction and width (R123 to R126). -/
inductive IsDataPhase : Bool → Bool → Instr → Prop where
  | writeData32 (w : Word) : IsDataPhase true false (.writeData32 w)
  | data32w (q : Quad) : IsDataPhase true false (.data32w q)
  | readData32 : IsDataPhase false false .readData32
  | data32r (q : Quad) : IsDataPhase false false (.data32r q)
  | writeData8 (b : Byte) : IsDataPhase true true (.writeData8 b)
  | data8w (b : Byte) : IsDataPhase true true (.data8w b)
  | readData8 : IsDataPhase false true .readData8
  | data8r (b : Byte) : IsDataPhase false true (.data8r b)

/-- Every other operation completes. -/
theorem isDataPhase_or_next (i : Instr) (s : State) : (∃ wr n, IsDataPhase wr n i) ∨ ∃ t, exec i s = .next t := by
  cases i with
  | writeData32 w => exact .inl ⟨_, _, .writeData32 w⟩
  | data32w q => exact .inl ⟨_, _, .data32w q⟩
  | readData32 => exact .inl ⟨_, _, .readData32⟩
  | data32r q => exact .inl ⟨_, _, .data32r q⟩
  | writeData8 b => exact .inl ⟨_, _, .writeData8 b⟩
  | data8w b => exact .inl ⟨_, _, .data8w b⟩
  | readData8 => exact .inl ⟨_, _, .readData8⟩
  | data8r b => exact .inl ⟨_, _, .data8r b⟩
  | _ => exact .inr ⟨_, rfl⟩

theorem IsDataPhase.refused_iff {wr n : Bool} {r : Refusal} (h : IsDataPhase wr n i) :
    exec i s = .refused r ↔ r = .protocolViolation ∧ pendingMatches wr n s = false := by
  cases h <;> exact dataPhase_refused_iff

theorem exec_refused_iff {r : Refusal} : exec i s = .refused r ↔
    r = .protocolViolation ∧ ∃ wr n, IsDataPhase wr n i ∧ pendingMatches wr n s = false := by
  constructor
  · intro h
    obtain ⟨wr, n, hi⟩ | ⟨t, ht⟩ := isDataPhase_or_next i s
    · obtain ⟨hr, hm⟩ := hi.refused_iff.1 h
      exact ⟨hr, wr, n, hi, hm⟩
    · cases h.symm.trans ht
  · rintro ⟨hr, wr, n, hi, hm⟩
    exact hi.refused_iff.2 ⟨hr, hm⟩

theorem isDataPhase_write32 : IsDataPhase true false i ↔ (∃ w, i = .writeData32 w) ∨ ∃ q, i = .data32w q := by
  constructor
  · rintro ⟨⟩
    · exact .inl ⟨_, rfl⟩
    · exact .inr ⟨_, rfl⟩
  · rintro (⟨w, rfl⟩ | ⟨q, rfl⟩)
    · exact .writeData32 w
    · exact .data32w q

theorem isDataPhase_read32 : IsDataPhase false false i ↔ i = .readData32 ∨ ∃ q, i = .data32r q := by
  constructor
  · rintro ⟨⟩
    · exact .inl rfl
    · exact .inr ⟨_, rfl⟩
  · rintro (rfl | ⟨q, rfl⟩)
    · exact .readData32
    · exact .data32r q

theorem isDataPhase_write8 : IsDataPhase true true i ↔ (∃ b, i = .writeData8 b) ∨ ∃ b, i = .data8w b := by
  constructor
  · rintro ⟨⟩
    · exact .inl ⟨_, rfl⟩
    · exact .inr ⟨_, rfl⟩
  · rintro (⟨b, rfl⟩ | ⟨b, rfl⟩)
    · exact .writeData8 b
    · exact .data8w b

theorem isDataPhase_read8 : IsDataPhase false true i ↔ i = .readData8 ∨ ∃ b, i = .data8r b := by
  constructor
  · rintro ⟨⟩
    · exact .inl rfl
    · exact .inr ⟨_, rfl⟩
  · rintro (rfl | ⟨b, rfl⟩)
    · exact .readData8
    · exact .data8r b

/-- Settles O21: only a data phase can be refused, and each is by the same rule. -/
theorem onlyUnmatchedDataPhasesRefused : Obligations.OnlyUnmatchedDataPhasesRefused := by
  intro i s
  constructor
  · intro r
    rw [exec_refused_iff, ← isDataPhase_write32, ← isDataPhase_read32, ← isDataPhase_write8, ← isDataPhase_read8]
    simp only [Bool.exists_bool]
    tauto
  · intro hr
    cases h : exec i s with
    | next t => exact ⟨t, rfl⟩
    | fault f => cases f
    | refused r => exact absurd h (hr r)

end Sys2Proof.Machine

/-! The layouts of the register words (R90 to R93) and the round trips of the codec, from one rule for a field of
a word. -/

namespace Sys2Proof.Machine

/-! ### A field of a word -/

theorem getLsbD_fieldAt {n : Nat} (v : BitVec n) (lo i : Nat) :
    (fieldAt v lo).getLsbD i = (decide (i < 32) && decide (lo ≤ i) && v.getLsbD (i - lo)) := by
  by_cases hi : i < 32
  · by_cases hl : lo ≤ i
    · simp [fieldAt, hi, hl]
    · simp [fieldAt, hl]
  · simp [fieldAt, hi]

theorem extractLsb'_or {n : Nat} (x y : BitVec n) (lo k : Nat) :
    (x ||| y).extractLsb' lo k = x.extractLsb' lo k ||| y.extractLsb' lo k := by
  apply BitVec.eq_of_getLsbD_eq
  intro i hi
  simp [hi]

/-- A field is read back from its own place. -/
theorem extractLsb'_fieldAt_same {n lo : Nat} (v : BitVec n) (h : lo + n ≤ 32) :
    (fieldAt v lo).extractLsb' lo n = v := by
  apply BitVec.eq_of_getLsbD_eq
  intro i hi
  have h32 : lo + i < 32 := by omega
  simp only [BitVec.getLsbD_extractLsb', getLsbD_fieldAt, hi, h32, Nat.le_add_right, Nat.add_sub_cancel_left,
    decide_true, Bool.true_and]

/-- At a place apart from it a field reads zero. -/
theorem extractLsb'_fieldAt_apart {n lo lo' k : Nat} (v : BitVec n) (h : lo' + k ≤ lo ∨ lo + n ≤ lo') :
    (fieldAt v lo).extractLsb' lo' k = 0#k := by
  apply BitVec.eq_of_getLsbD_eq
  intro i hi
  have hv : lo ≤ lo' + i → v.getLsbD (lo' + i - lo) = false := fun _ => BitVec.getLsbD_of_ge _ _ (by omega)
  simp only [BitVec.getLsbD_extractLsb', getLsbD_fieldAt, BitVec.getLsbD_zero]
  grind

/-- A bit of a field of a word is a bit of the word. -/
theorem getLsbD_add_eq {lo n : Nat} (w : Word) (k : Nat) (h : n < k) :
    w.getLsbD (lo + n) = (w.extractLsb' lo k).getLsbD n := by
  simp [h]

theorem getLsbD_eq_extractLsb' (w : Word) (i : Nat) : w.getLsbD i = (w.extractLsb' i 1).getLsbD 0 := by
  simp

theorem ofBool_getLsbD (w : Word) (i : Nat) : BitVec.ofBool (w.getLsbD i) = w.extractLsb' i 1 := by
  apply BitVec.eq_of_getLsbD_eq
  intro j hj
  obtain rfl : j = 0 := by omega
  simp

/-! ### Codes of one field -/

@[simp] theorem clockBaseOf_clockBaseBits (c : ClockBase) : clockBaseOf (clockBaseBits c) = c := by cases c <;> rfl
@[simp] theorem pairModeOf_pairModeBits (m : PairMode) : pairModeOf (pairModeBits m) = m := by cases m <;> rfl
@[simp] theorem triggerOf_triggerBits (x : Trigger) : triggerOf (triggerBits x) = x := by cases x <;> rfl
@[simp] theorem driveModeOf_driveModeBits (d : DriveMode) : driveModeOf (driveModeBits d) = d := by cases d <;> rfl
@[simp] theorem sideModeOf_sideModeBits (m : SideMode) : sideModeOf (sideModeBits m) = m := by cases m <;> rfl
@[simp] theorem clockBaseBits_clockBaseOf : ∀ v, clockBaseBits (clockBaseOf v) = v := by decide
@[simp] theorem pairModeBits_pairModeOf : ∀ v, pairModeBits (pairModeOf v) = v := by decide
@[simp] theorem triggerBits_triggerOf : ∀ v, triggerBits (triggerOf v) = v := by decide
@[simp] theorem driveModeBits_driveModeOf : ∀ v, driveModeBits (driveModeOf v) = v := by decide
@[simp] theorem sideModeBits_sideModeOf : ∀ v, sideModeBits (sideModeOf v) = v := by decide

/-! ### The four register words -/

/-- The fields of a packed fault word (R92). -/
theorem packFault_fields (f : FaultWord) :
    (packFault f).extractLsb' 24 8 = f.overcurrent ∧ (packFault f).extractLsb' 16 8 = f.hitNotReached ∧
    (packFault f).extractLsb' 8 8 = f.openLoad ∧ (packFault f).extractLsb' 0 8 = f.plungerMovement := by
  simp [packFault, extractLsb'_or, extractLsb'_fieldAt_same, extractLsb'_fieldAt_apart]

@[simp] theorem unpackFault_packFault (f : FaultWord) : unpackFault (packFault f) = f := by
  obtain ⟨h3, h2, h1, h0⟩ := packFault_fields f
  rw [unpackFault, h3, h2, h1, h0]

theorem packFault_unpackFault (w : Word) : packFault (unpackFault w) = w := by
  apply BitVec.eq_of_getLsbD_eq
  intro i hi
  simp only [packFault, unpackFault, BitVec.getLsbD_or, getLsbD_fieldAt, BitVec.getLsbD_extractLsb']
  interval_cases i <;> simp

/-- Settles O7: a bit of a mask is a bit of its byte. -/
theorem faultWordLayout : Obligations.FaultWordLayout := by
  refine ⟨fun f n hn => ?_, unpackFault_packFault, packFault_unpackFault⟩
  obtain ⟨h3, h2, h1, h0⟩ := packFault_fields f
  have low := getLsbD_add_eq (lo := 0) (packFault f) 8 hn
  rw [Nat.zero_add, h0] at low
  rw [getLsbD_add_eq _ 8 hn, getLsbD_add_eq _ 8 hn, getLsbD_add_eq _ 8 hn, h3, h2, h1]
  exact ⟨rfl, rfl, rfl, low⟩

/-- The fields of a packed status word (R90, R151). -/
theorem packStatus_fields (x : StatusWord) :
    (packStatus x).extractLsb' 24 8 = x.channelsOn ∧ (packStatus x).extractLsb' 17 7 = x.faultMask ∧
    (packStatus x).extractLsb' 16 1 = clockBaseBits x.clockBase ∧
    (packStatus x).extractLsb' 14 2 = pairModeBits x.pairMode.p3 ∧
    (packStatus x).extractLsb' 12 2 = pairModeBits x.pairMode.p2 ∧
    (packStatus x).extractLsb' 10 2 = pairModeBits x.pairMode.p1 ∧
    (packStatus x).extractLsb' 8 2 = pairModeBits x.pairMode.p0 ∧
    (packStatus x).extractLsb' 1 7 = x.faultFlags ∧
    (packStatus x).extractLsb' 0 1 = BitVec.ofBool x.globalEnable := by
  simp [packStatus, extractLsb'_or, extractLsb'_fieldAt_same, extractLsb'_fieldAt_apart]

@[simp] theorem unpackStatus_packStatus (x : StatusWord) : unpackStatus (packStatus x) = x := by
  obtain ⟨hon, hmask, hclock, h3, h2, h1, h0, hflags, henable⟩ := packStatus_fields x
  rw [unpackStatus, hon, hmask, hclock, h3, h2, h1, h0, hflags, getLsbD_eq_extractLsb', henable]
  simp

theorem packStatus_unpackStatus (w : Word) : packStatus (unpackStatus w) = w := by
  apply BitVec.eq_of_getLsbD_eq
  intro i hi
  simp only [packStatus, unpackStatus, ofBool_getLsbD, clockBaseBits_clockBaseOf, pairModeBits_pairModeOf,
    BitVec.getLsbD_or, getLsbD_fieldAt, BitVec.getLsbD_extractLsb']
  interval_cases i <;> simp

/-- Settles O8: a flag and the clock base are fields of one bit. -/
theorem statusWordLayout : Obligations.StatusWordLayout := by
  refine ⟨fun x => ?_, rfl, unpackStatus_packStatus, packStatus_unpackStatus⟩
  obtain ⟨hon, hmask, hclock, h3, h2, h1, h0, hflags, henable⟩ := packStatus_fields x
  refine ⟨hon, hmask, ?_, h3, h2, h1, h0, hflags, ?_⟩
  · rw [getLsbD_eq_extractLsb', hclock]
    cases x.clockBase <;> rfl
  · rw [getLsbD_eq_extractLsb', henable]
    cases x.globalEnable <;> rfl

/-- The fields of a packed channel word (R91, R154). -/
theorem packChannel_fields (r : ChannelRaw) :
    (packChannel r).extractLsb' 31 1 = BitVec.ofBool r.halfScale ∧ (packChannel r).extractLsb' 24 7 = r.holdCode ∧
    (packChannel r).extractLsb' 23 1 = triggerBits r.trigger ∧ (packChannel r).extractLsb' 16 7 = r.hitCode ∧
    (packChannel r).extractLsb' 8 8 = r.hitTimeCode ∧ (packChannel r).extractLsb' 7 1 = driveModeBits r.driveMode ∧
    (packChannel r).extractLsb' 6 1 = sideModeBits r.sideMode ∧ (packChannel r).extractLsb' 4 2 = r.chopSel ∧
    (packChannel r).extractLsb' 3 1 = BitVec.ofBool r.slewRateControl ∧
    (packChannel r).extractLsb' 2 1 = BitVec.ofBool r.openLoadEn ∧
    (packChannel r).extractLsb' 1 1 = BitVec.ofBool r.plungerDetectEn ∧
    (packChannel r).extractLsb' 0 1 = BitVec.ofBool r.hitCheckEn := by
  simp [packChannel, extractLsb'_or, extractLsb'_fieldAt_same, extractLsb'_fieldAt_apart]

@[simp] theorem unpackChannel_packChannel (r : ChannelRaw) : unpackChannel (packChannel r) = r := by
  obtain ⟨hhalf, hhold, htrig, hhit, htime, hdrive, hside, hchop, hslew, hopen, hplunger, hcheck⟩ :=
    packChannel_fields r
  simp only [unpackChannel, getLsbD_eq_extractLsb' (packChannel r), hhalf, hhold, htrig, hhit, htime, hdrive, hside,
    hchop, hslew, hopen, hplunger, hcheck]
  simp

theorem packChannel_unpackChannel (w : Word) : packChannel (unpackChannel w) = w := by
  apply BitVec.eq_of_getLsbD_eq
  intro i hi
  simp only [packChannel, unpackChannel, ofBool_getLsbD, triggerBits_triggerOf, driveModeBits_driveModeOf,
    sideModeBits_sideModeOf, BitVec.getLsbD_or, getLsbD_fieldAt, BitVec.getLsbD_extractLsb']
  interval_cases i <;> simp

/-- Settles O9: each flag and each mode is a field of one bit. -/
theorem channelWordLayout : Obligations.ChannelWordLayout := by
  refine ⟨fun r => ?_, unpackChannel_packChannel, packChannel_unpackChannel⟩
  obtain ⟨hhalf, hhold, htrig, hhit, htime, hdrive, hside, hchop, hslew, hopen, hplunger, hcheck⟩ :=
    packChannel_fields r
  have flag {b : Bool} {i : Nat} (h : (packChannel r).extractLsb' i 1 = BitVec.ofBool b) :
      (packChannel r).getLsbD i = b := by
    rw [getLsbD_eq_extractLsb', h]
    cases b <;> rfl
  refine ⟨flag hhalf, hhold, flag ?_, hhit, htime, flag ?_, flag ?_, hchop, flag hslew, flag hopen, flag hplunger,
    flag hcheck⟩
  · rw [htrig]
    cases r.trigger <;> rfl
  · rw [hdrive]
    cases r.driveMode <;> rfl
  · rw [hside]
    cases r.sideMode <;> rfl

/-- The fields of a packed plunger-detection word (R93). -/
theorem packDpm_fields (d : DpmConfig) :
    (packDpm d).extractLsb' 8 7 = d.startCurrentCode ∧ (packDpm d).extractLsb' 4 4 = d.debounceCode ∧
    (packDpm d).extractLsb' 0 4 = d.dipThresholdCode ∧ (packDpm d).extractLsb' 15 17 = 0#17 := by
  simp [packDpm, extractLsb'_or, extractLsb'_fieldAt_same, extractLsb'_fieldAt_apart]

@[simp] theorem unpackDpm_packDpm (d : DpmConfig) : unpackDpm (packDpm d) = d := by
  obtain ⟨hstart, hdebounce, hdip, -⟩ := packDpm_fields d
  rw [unpackDpm, hstart, hdebounce, hdip]

/-- The reserved bits are ignored on unpacking and packed as zero (R158, R159). -/
theorem packDpm_unpackDpm (w : Word) : packDpm (unpackDpm w) = w &&& 0x00007FFF#32 := by
  apply BitVec.eq_of_getLsbD_eq
  intro i hi
  simp only [packDpm, unpackDpm, BitVec.getLsbD_or, BitVec.getLsbD_and, getLsbD_fieldAt, BitVec.getLsbD_extractLsb']
  interval_cases i <;> simp

/-- Settles O10: the fields, and the round trips of which one clears the reserved bits. -/
theorem dpmWordLayout : Obligations.DpmWordLayout :=
  ⟨packDpm_fields, unpackDpm_packDpm, packDpm_unpackDpm⟩

/-- Settles O33: the register rows deliver the word their fields pack to, by the round trips. -/
theorem codecOperationsComplete : Obligations.CodecOperationsComplete := by
  intro s w x r f d
  refine ⟨rfl, rfl, rfl, rfl, rfl, rfl, rfl, rfl, ?_, ?_, ?_, ?_⟩
  · show execRegStatus w s = _
    rw [execRegStatus, packStatus_unpackStatus]
    rfl
  · show execRegCfgCh w s = _
    rw [execRegCfgCh, packChannel_unpackChannel]
    rfl
  · show execRegFault w s = _
    rw [execRegFault, packFault_unpackFault]
    rfl
  · show execRegCfgDpm w s = _
    rw [execRegCfgDpm, packDpm_unpackDpm]
    rfl

end Sys2Proof.Machine

/-! The decoder and the encoder of the host port. -/

namespace Sys2Proof

open Sys2Proof.Machine

/-! ### Operands made of register words -/

@[simp] theorem getStatusWord_put (x : StatusWord) (r : List Byte) :
    getStatusWord (putWord (packStatus x) ++ r) = .ok (x, r) := by
  simp [getStatusWord]

@[simp] theorem getChannelRaw_put (x : ChannelRaw) (r : List Byte) :
    getChannelRaw (putWord (packChannel x) ++ r) = .ok (x, r) := by
  simp [getChannelRaw]

@[simp] theorem getFaultWord_put (f : FaultWord) (r : List Byte) :
    getFaultWord (putWord (packFault f) ++ r) = .ok (f, r) := by
  simp [getFaultWord]

@[simp] theorem getDpm_put (d : DpmConfig) (r : List Byte) : getDpm (putWord (packDpm d) ++ r) = .ok (d, r) := by
  obtain ⟨-, -, -, reserved⟩ := packDpm_fields d
  simp [getDpm, reserved]

@[simp] theorem getChannelFlags_put (c : ChannelConfig) (r : List Byte) :
    getChannelFlags (putWord (packChannel (channelFlags c)) ++ r) = .ok (channelFlags c, r) := by
  simp [getChannelFlags, channelFlags]

@[simp] theorem getConfig_putConfig (c : ChannelConfig) (r : List Byte) :
    getConfig (putConfig c ++ r) = .ok (c, r) := by
  simp only [getConfig, putConfig, List.append_assoc, getChannelFlags_put, getEng_putEng, thenRead_ok]
  rfl

/-- A command byte is classified as the access it was made for, also where its bank names no register (R86, R97). -/
theorem classifyCommand_commandByte_any (bank : Bank) (isWrite narrow : Bool) :
    classifyCommand (commandByte bank isWrite narrow) =
      if bankValid bank then .access bank isWrite narrow else .invalidBank bank isWrite narrow := by
  revert bank isWrite narrow
  decide

/-! ### Reading back an encoding -/

section
variable {α β : Type} {get : List Byte → Read α} {bytes rest r : List Byte} {a : α} {k : α → List Byte → Read β}
  {x : Read β}

/-- The last operand is read, and what stands after it is left. -/
theorem thenRead_last (h : ∀ r, get (bytes ++ r) = .ok (a, r)) (hk : k a r = x) :
    thenRead (get (bytes ++ r)) k = x := by
  rw [h r, thenRead_ok, hk]

/-- An operand is read, and the operands after it are left. -/
theorem thenRead_more (h : ∀ r, get (bytes ++ r) = .ok (a, r)) (hk : k a (rest ++ r) = x) :
    thenRead (get ((bytes ++ rest) ++ r)) k = x := by
  rw [List.append_assoc, h, thenRead_ok, hk]

end

/-- A register word given by its bytes (R90 to R93). -/
theorem decodeHead_word {f : Format} {i : Instr} (w : Word) {r : List Byte} {k : Word → List Byte → Read Instr}
    (hd : ∀ bs, decodeHead f bs = thenRead (getWord bs) k) (hk : k w r = .ok (i, r)) :
    decodeHead f (putWord w ++ r) = .ok (i, r) :=
  (hd _).trans (thenRead_last (getWord_putWord w) hk)

section
variable {α : Type} {op : Byte} {i : Instr} {get : List Byte → Read α} {bytes rest r : List Byte} {a : α}
  {k : α → List Byte → Read Instr}

/-- A host operation of one operand: its identifier (R99) selects the reading of it. -/
theorem decodeHead_hostFrame_last (hd : ∀ bs, decodeOperands op.toNat bs = thenRead (get bs) k)
    (h : ∀ r, get (bytes ++ r) = .ok (a, r)) (hk : k a r = .ok (i, r)) :
    decodeHead (hostFrame op bytes).format ((hostFrame op bytes).bytes ++ r) = .ok (i, r) :=
  (hd _).trans (thenRead_last h hk)

/-- A host operation of several operands, the first of them read. -/
theorem decodeHead_hostFrame_more (hd : ∀ bs, decodeOperands op.toNat bs = thenRead (get bs) k)
    (h : ∀ r, get (bytes ++ r) = .ok (a, r)) (hk : k a (rest ++ r) = .ok (i, r)) :
    decodeHead (hostFrame op (bytes ++ rest)).format ((hostFrame op (bytes ++ rest)).bytes ++ r) = .ok (i, r) :=
  (hd _).trans (thenRead_more h hk)

end

/-- A command byte and the data after it (R96, R98). -/
theorem decodeHead_commandFrame (bank : Bank) (isWrite narrow : Bool) (data r : List Byte) :
    decodeHead (commandFrame bank isWrite narrow data).format ((commandFrame bank isWrite narrow data).bytes ++ r) =
      match isWrite, narrow with
      | false, false => .ok (.rd32 bank, data ++ r)
      | false, true => .ok (.rd8 bank, data ++ r)
      | true, false => thenRead (getWord (data ++ r)) fun w r => .ok (.wr32 bank w, r)
      | true, true => thenRead (getByte (data ++ r)) fun d r => .ok (.wr8 bank d, r) := by
  have e : decodeHead (commandFrame bank isWrite narrow data).format
      ((commandFrame bank isWrite narrow data).bytes ++ r) =
      decodeCommand (commandByte bank isWrite narrow :: (data ++ r)) := rfl
  rw [e, decodeCommand, getByte, thenRead_ok, classifyCommand_commandByte_any]
  cases bankValid bank <;> rfl

/-- The decoder reads an operation from the bytes it is written as, and leaves what stands after them. -/
theorem decodeHead_encode {i : Instr} (h : i.wellFormed = true) (r : List Byte) :
    decodeHead (encode i).format ((encode i).bytes ++ r) = .ok (i, r) := by
  have bits {n : Nat} (hn : n ≤ 8) (v : BitVec n) := getBits_putBits hn v
  cases i with
  | rd32 bank => exact decodeHead_commandFrame bank false false [] r
  | wr32 bank w =>
    exact (decodeHead_commandFrame bank true false _ r).trans (thenRead_last (getWord_putWord w) rfl)
  | rd8 bank => exact decodeHead_commandFrame bank false true [] r
  | wr8 bank b => exact decodeHead_commandFrame bank true true _ r
  | stat8 | data32w | data32r | data8w | data8r => rfl
  | regStatus w | regCfgCh w | regFault w | regCfgDpm w => exact decodeHead_word w (fun _ => rfl) rfl
  | readData32 | readData8 | getLastStatus | initializeDevice | deinitialize | readStatus | readFaults | getDpmConfig
  | readFaultLine | ensureCache => rfl
  | writeData32 w | unpackStatus w | unpackChannel w | unpackFault w | unpackDpm w =>
    exact decodeHead_hostFrame_last (fun _ => rfl) (getWord_putWord w) rfl
  | writeData8 b | setChannelsOn b => exact decodeHead_hostFrame_last (fun _ => rfl) (getByte_putByte b) rfl
  | readReg32 bank | readReg8 bank | rawReadRegister bank | dutyFromCode bank =>
    exact decodeHead_hostFrame_last (fun _ => rfl) (bits (by decide) bank) rfl
  | packStatus x => exact decodeHead_hostFrame_last (fun _ => rfl) (getStatusWord_put x) rfl
  | packChannel x => exact decodeHead_hostFrame_last (fun _ => rfl) (getChannelRaw_put x) rfl
  | packFault f => exact decodeHead_hostFrame_last (fun _ => rfl) (getFaultWord_put f) rfl
  | packDpm d | setDpmConfig d => exact decodeHead_hostFrame_last (fun _ => rfl) (getDpm_put d) rfl
  | dutyCodeLinear pct => exact decodeHead_hostFrame_last (fun _ => rfl) (getRat_putRat pct) rfl
  | getChannelConfig ch => exact decodeHead_hostFrame_last (fun _ => rfl) (getNat_putNat ch) rfl
  | setBoardScale b => exact decodeHead_hostFrame_last (fun _ => rfl) (getBoardRequest_putBoardRequest b) rfl
  | writeCommand bank wr n =>
    exact decodeHead_hostFrame_more (fun _ => rfl) (bits (by decide) bank)
      (thenRead_more (getFlag_putFlag wr) (thenRead_last (getFlag_putFlag n) rfl))
  | writeReg32 bank w | rawWriteRegister bank w =>
    exact decodeHead_hostFrame_more (fun _ => rfl) (bits (by decide) bank) (thenRead_last (getWord_putWord w) rfl)
  | writeReg8 bank b =>
    exact decodeHead_hostFrame_more (fun _ => rfl) (bits (by decide) bank) (thenRead_last (getByte_putByte b) rfl)
  | encodeChannel cfg ctx board | quantizeChannel cfg ctx board =>
    obtain ⟨hctx, hboard⟩ := Bool.and_eq_true_iff.1 h
    exact decodeHead_hostFrame_more (fun _ => rfl) (getConfig_putConfig cfg)
      (thenRead_more (getContext_putContext hctx) (thenRead_last (getBoard_putBoard hboard) rfl))
  | decodeChannel w ctx =>
    exact decodeHead_hostFrame_more (fun _ => rfl) (getWord_putWord w) (thenRead_last (getContext_putContext h) rfl)
  | chopKhz base sel =>
    exact decodeHead_hostFrame_more (fun _ => rfl) (getClockBase_putClockBase base)
      (thenRead_last (bits (by decide) sel) rfl)
  | codeFromMa full ma =>
    exact decodeHead_hostFrame_more (fun _ => rfl) (getEng_putEng full) (thenRead_last (getEng_putEng ma) rfl)
  | maFromCode full code =>
    exact decodeHead_hostFrame_more (fun _ => rfl) (getNonNeg_putRat (of_decide_eq_true h))
      (thenRead_last (bits (by decide) code) rfl)
  | codeFromDuty pct base sel src =>
    exact decodeHead_hostFrame_more (fun _ => rfl) (getEng_putEng pct)
      (thenRead_more (getClockBase_putClockBase base)
        (thenRead_more (bits (by decide) sel) (thenRead_last (getFlag_putFlag src) rfl)))
  | dutyLimits base sel src =>
    exact decodeHead_hostFrame_more (fun _ => rfl) (getClockBase_putClockBase base)
      (thenRead_more (bits (by decide) sel) (thenRead_last (getFlag_putFlag src) rfl))
  | codeFromMs ms khz =>
    exact decodeHead_hostFrame_more (fun _ => rfl) (getEng_putEng ms) (thenRead_last (getKhz_putKhz h) rfl)
  | msFromCode code khz =>
    exact decodeHead_hostFrame_more (fun _ => rfl) (getByte_putByte code) (thenRead_last (getKhz_putKhz h) rfl)
  | dequantizeChannel x ctx =>
    exact decodeHead_hostFrame_more (fun _ => rfl) (getChannelRaw_put x) (thenRead_last (getContext_putContext h) rfl)
  | configureChannel ch cfg =>
    exact decodeHead_hostFrame_more (fun _ => rfl) (getNat_putNat ch) (thenRead_last (getConfig_putConfig cfg) rfl)
  | setChannelEnabled ch on =>
    exact decodeHead_hostFrame_more (fun _ => rfl) (getNat_putNat ch) (thenRead_last (getFlag_putFlag on) rfl)
  | setPairMode pair mode =>
    exact decodeHead_hostFrame_more (fun _ => rfl) (getNat_putNat pair)
      (thenRead_last (getPairMode_putPairMode mode) rfl)
  | validateChannel cfg board =>
    exact decodeHead_hostFrame_more (fun _ => rfl) (getConfig_putConfig cfg) (thenRead_last (getBoard_putBoard h) rfl)

/-- Settles O1: the operation is read and no byte is left. -/
theorem decodeInvertsEncode : Obligations.DecodeInvertsEncode := by
  intro i h
  have head := decodeHead_encode h []
  rw [List.append_nil] at head
  rw [decode, head]
  rfl

end Sys2Proof

/-! What the decoder answers, and the requests of the host as steps. -/

namespace Sys2Proof

open Sys2Proof.Machine

section
variable {α β : Type} {P : α → Prop} {Q : β → Prop}

/-- Whatever a reading answers satisfies `P`. -/
def Yields (P : α → Prop) (p : Read α) : Prop := ∀ a r, p = .ok (a, r) → P a

@[simp] theorem yields_ok (a : α) (r : List Byte) : Yields P (.ok (a, r)) ↔ P a :=
  ⟨fun h => h a r rfl, by rintro h _ _ ⟨⟩; exact h⟩

@[simp] theorem yields_error (e : DecodeError) : Yields P (.error e) := nofun

@[simp] theorem yields_thenRead (p : Read β) (k : β → List Byte → Read α) :
    Yields P (thenRead p k) ↔ ∀ b r, p = .ok (b, r) → Yields P (k b r) := by
  constructor
  · intro h b r hp a r' hk
    exact h a r' (by rw [hp, thenRead_ok, hk])
  · intro h a r' hk
    obtain ⟨b, r, hp, hk⟩ := thenRead_eq_ok.1 hk
    exact h b r hp a r' hk

/-- What is known of an operand is known where it is used. -/
theorem Yields.thenRead {p : Read β} {k : β → List Byte → Read α} (hp : Yields Q p)
    (hk : ∀ b r, Q b → Yields P (k b r)) : Yields P (thenRead p k) :=
  (yields_thenRead p k).2 fun b r h => hk b r (hp b r h)

end

theorem getNonNeg_yields (bs : List Byte) : Yields (0 ≤ ·) (getNonNeg bs) := by
  refine (yields_thenRead _ _).2 fun q r _ => ?_
  split
  · next h => exact (yields_ok q r).2 h
  · exact yields_error _

theorem getContext_yields (bs : List Byte) : Yields (·.wellFormed = true) (getContext bs) :=
  (getNonNeg_yields bs).thenRead fun f r hf => by simp [ConvContext.wellFormed, hf]

theorem getBoard_yields (bs : List Byte) : Yields (·.wellFormed = true) (getBoard bs) :=
  (getNonNeg_yields bs).thenRead fun f r hf => by simp [BoardScale.wellFormed, hf]

theorem getKhz_yields (bs : List Byte) : Yields (khzWellFormed · = true) (getKhz bs) := by
  have table : ∀ v : BitVec 3, khzWellFormed (chopFrequencies.getD v.toNat 0) = true := by decide
  exact (yields_thenRead _ _).2 fun v r _ => (yields_ok _ r).2 (table v)

theorem decodeOperands_yields (op : Nat) (bs : List Byte) : Yields (·.wellFormed = true) (decodeOperands op bs) := by
  unfold decodeOperands
  split
  case h_19 | h_30 => -- encodeChannel, quantizeChannel
    refine (yields_thenRead _ _).2 fun cfg r _ => (getContext_yields r).thenRead fun ctx r hctx =>
      (getBoard_yields r).thenRead fun board r hboard => (yields_ok _ r).2 ?_
    exact Bool.and_eq_true_iff.2 ⟨hctx, hboard⟩
  case h_20 | h_31 => -- decodeChannel, dequantizeChannel
    exact (yields_thenRead _ _).2 fun _ r _ => (getContext_yields r).thenRead fun ctx r hctx => (yields_ok _ r).2 hctx
  case h_23 => -- maFromCode
    refine (getNonNeg_yields bs).thenRead fun full r hfull => (yields_thenRead _ _).2 fun code r _ =>
      (yields_ok _ r).2 ?_
    exact decide_eq_true hfull
  case h_27 | h_28 => -- codeFromMs, msFromCode
    exact (yields_thenRead _ _).2 fun _ r _ => (getKhz_yields r).thenRead fun khz r hkhz => (yields_ok _ r).2 hkhz
  case h_47 => -- validateChannel
    exact (yields_thenRead _ _).2 fun _ r _ => (getBoard_yields r).thenRead fun board r hboard =>
      (yields_ok _ r).2 hboard
  -- every other operation has operands whose types say everything
  all_goals simp only [yields_thenRead, yields_ok, yields_error]
  all_goals intros; rfl

theorem decodeCommand_yields (bs : List Byte) : Yields (·.wellFormed = true) (decodeCommand bs) := by
  refine (yields_thenRead _ _).2 fun b r _ => ?_
  split
  · exact yields_error _
  all_goals
    split <;> simp only [yields_thenRead, yields_ok]
    all_goals intros; rfl

theorem decodeHead_yields (f : Format) (bs : List Byte) : Yields (·.wellFormed = true) (decodeHead f bs) := by
  cases f with
  | cmd8 => exact decodeCommand_yields bs
  | hostOp => exact (yields_thenRead _ _).2 fun op r _ => decodeOperands_yields op.toNat r
  | _ => exact (yields_thenRead _ _).2 fun _ r _ => (yields_ok _ r).2 rfl

/-- Settles O2: the readers of operands check what the types do not say. -/
theorem decodeAnswersWellFormed : Obligations.DecodeAnswersWellFormed := by
  intro f i h
  unfold decode at h
  split at h
  · cases h
  · next j r hj =>
    split at h <;> cases h
    exact decodeHead_yields f.format f.bytes i r hj

/-- Settles O3, by running the decoder on each word. -/
theorem specWordsDecode : Obligations.SpecWordsDecode := by
  refine ⟨?_, ?_, ?_, ?_, ?_, ?_, ?_, ?_, ?_, ?_⟩ <;> decide

/-- Settles O4, by evaluation over the banks and over the 256 values of a byte. -/
theorem commandByteLayout : Obligations.CommandByteLayout := by
  refine ⟨?_, ?_, ?_, ?_⟩
  · decide
  all_goals decide +kernel

/-- Settles O11, by the head of the queue and what it decodes to. -/
theorem stepRunsDecodedRequest : Obligations.StepRunsDecodedRequest := by
  refine ⟨fun s f rest i hs hf => ?_, fun s f rest e hs hf => ?_, fun s hs => ?_⟩
  · simp only [step, hs, hf]
    rfl
  · simp only [step, hs, hf]
  · simp only [step, hs]

/-- Settles O12: the placed frame is the head of the queue. -/
theorem fetchWordRunsNext : Obligations.FetchWordRunsNext := by
  intro s nbits w i h
  unfold decodeTableWord at h
  split at h <;> cases h
  next hd =>
    rw [stepRunsDecodedRequest.1 _ _ _ i rfl hd]
    rfl

/-- Settles O13, by the definition of the reset state. -/
theorem resetLeavesTableOfR40 : Obligations.ResetLeavesTableOfR40 := ⟨rfl, rfl, rfl, rfl, rfl, rfl, rfl, rfl⟩

end Sys2Proof

/-! The Protocol Engine: the two phases that the host issues, and the eight operations that are register transactions,
which all follow one rule. -/

namespace Sys2Proof.Machine

variable {s t : State} {bank : Bank} {wr n : Bool} {q a : Quad}

theorem bankValid_iff : bankValid bank = true ↔ bank.toNat ≤ 10 := by
  simp [bankValid, Nat.lt_succ_iff]

/-- The invalidation of R243 as one field. -/
theorem bypass_eq (bank : Bank) (wr : Bool) (s : State) :
    bypass bank wr s = { s with cacheValid := s.cacheValid && !(wr && bank == 0) } := by
  unfold bypass
  split
  · next h =>
    obtain ⟨rfl, rfl⟩ := h
    simp [State.withCacheValid]
  · next h =>
    have h' : (wr && bank == 0) = false := by simpa using h
    rw [h', Bool.not_false, Bool.and_true]

/-! ### The command phase -/

theorem exec_writeCommand_answered (h : bank.toNat ≤ 10) (ha : answerAt s.env 0 = some q) :
    exec (.writeCommand bank wr n) s = .next { afterCommand bank wr n q s with
      cacheValid := s.cacheValid && !(wr && bank == 0)
      result := some (.ok (.commStatus (commStatusOf s.params q.b0))) } := by
  have arm : exec (.writeCommand bank wr n) s = execWriteCommand bank wr n s := rfl
  rw [arm, execWriteCommand, writeCommand_answered (bankValid_iff.2 h) (by rwa [bypass_env]), bypass_eq]
  rfl

theorem exec_writeCommand_failed (h : bank.toNat ≤ 10) (ha : answerAt s.env 0 = none) :
    exec (.writeCommand bank wr n) s = .next { s with
      pending := none
      cmdSel := .deasserted
      cacheValid := s.cacheValid && !(wr && bank == 0)
      env := afterXfers s.env 1
      trace := s.trace ++ commandEvents bank wr n none
      result := some .transportError } := by
  have arm : exec (.writeCommand bank wr n) s = execWriteCommand bank wr n s := rfl
  rw [arm, execWriteCommand, writeCommand_failed (bankValid_iff.2 h) (by rwa [bypass_env]), bypass_eq]
  rfl

theorem bypass_of_reserved (h : 10 < bank.toNat) (wr : Bool) (s : State) : bypass bank wr s = s := by
  have h0 : bank ≠ 0 := by
    rintro rfl
    exact absurd h (by decide)
  exact if_neg fun hw => h0 hw.2

theorem bankValid_eq_false (h : 10 < bank.toNat) : bankValid bank = false := by
  simp [bankValid]
  omega

theorem exec_writeCommand_rejected (h : 10 < bank.toNat) :
    exec (.writeCommand bank wr n) s = .next { s with result := some (.err .invalidParameter) } := by
  have arm : exec (.writeCommand bank wr n) s = execWriteCommand bank wr n s := rfl
  rw [arm, execWriteCommand, writeCommand_invalidBank (bankValid_eq_false h), bypass_of_reserved h]
  rfl

/-- Settles O22, by the answer to the exchange. -/
theorem writeCommandCompletes : Obligations.WriteCommandCompletes :=
  fun _ _ _ _ h => ⟨fun _ ha => exec_writeCommand_answered h ha, fun ha => exec_writeCommand_failed h ha⟩

/-! ### The data phases -/

/-- A narrow write, answered or not (R125). -/
theorem exec_writeData8 (h : pendingMatches true true s = true) (b : Byte) :
    exec (.writeData8 b) s = .next ((afterData [b] (answerAt s.env 0) s).withResult
      (phaseResult (fun _ => .unit) ((answerAt s.env 0).map fun _ => ()))) := by
  have arm : exec (.writeData8 b) s = execWriteData8 b s := rfl
  rw [arm, execWriteData8, dataPhase_of_pendingMatches h, sendData8_eq]

/-- A narrow read, answered or not (R126). -/
theorem exec_readData8 (h : pendingMatches false true s = true) :
    exec .readData8 s = .next ((afterData [s.params.txFill] (answerAt s.env 0) s).withResult
      (phaseResult .byte ((answerAt s.env 0).map Quad.b0))) := by
  have arm : exec .readData8 s = execReadData8 s := rfl
  rw [arm, execReadData8, dataPhase_of_pendingMatches h, receiveData8_eq]

/-- Settles O23: each data phase by the answer to its exchange. -/
theorem dataPhasesComplete : Obligations.DataPhasesComplete := by
  intro s w b
  refine ⟨fun h => ⟨fun a ha => ?_, fun ha => ?_⟩, fun h => ⟨fun a ha => ?_, fun ha => ?_⟩,
    fun h => ⟨fun a ha => ?_, fun ha => ?_⟩, fun h => ⟨fun a ha => ?_, fun ha => ?_⟩⟩
  · rw [exec_writeData32 h, ha]; rfl
  · rw [exec_writeData32 h, ha]; rfl
  · rw [exec_readData32 h, ha]; rfl
  · rw [exec_readData32 h, ha]; rfl
  · rw [exec_writeData8 h, ha]; rfl
  · rw [exec_writeData8 h, ha]; rfl
  · rw [exec_readData8 h, ha]; rfl
  · rw [exec_readData8 h, ha]; rfl

/-- The bytes of the word that a DATA32W frame carries are the frame (R52). -/
@[simp] theorem data32wBytes_data32wWord (q : Quad) : data32wBytes (data32wWord q) = q := by
  obtain ⟨b0, b1, b2, b3⟩ := q
  simp only [data32wBytes, data32wWord, Quad.mk.injEq]
  refine ⟨?_, ?_, ?_, ?_⟩
  all_goals
    apply BitVec.eq_of_getLsbD_eq
    intro i hi
    interval_cases i <;> simp

/-- The row DATA32W is the data phase of a full write of the word its bytes make (log 11). -/
theorem exec_data32w (q : Quad) (s : State) : exec (.data32w q) s = exec (.writeData32 (data32wWord q)) s := rfl

theorem exec_data8w (b : Byte) (s : State) : exec (.data8w b) s = exec (.writeData8 b) s := rfl

theorem exec_data32r (h : pendingMatches false false s = true) (q : Quad) : exec (.data32r q) s = .next { s with
    pending := none
    env := { s.env with xferCount := s.env.xferCount + 1 }
    trace := s.trace ++ [.xfer (fill32 s.params) (some (quadBytes q))]
    result := some (.ok (.word (data32rWord q))) } := by
  have arm : exec (.data32r q) s = execData32r q s := rfl
  rw [arm, execData32r, dataPhase_of_pendingMatches h]
  rfl

theorem exec_data8r (h : pendingMatches false true s = true) (b : Byte) : exec (.data8r b) s = .next { s with
    pending := none
    env := { s.env with xferCount := s.env.xferCount + 1 }
    trace := s.trace ++ [.xfer [s.params.txFill] (some [b])]
    result := some (.ok (.byte b)) } := by
  have arm : exec (.data8r b) s = execData8r b s := rfl
  rw [arm, execData8r, dataPhase_of_pendingMatches h]
  rfl

/-- Settles O24. -/
theorem wireDataRowsComplete : Obligations.WireDataRowsComplete := by
  intro s q b
  refine ⟨fun a h ha => ?_, fun a h ha => ?_, fun h => ?_, fun h => exec_data8r h b⟩
  · rw [exec_data32w, exec_writeData32 h, ha, data32wBytes_data32wWord]
    rfl
  · rw [exec_data8w, exec_writeData8 h, ha]
    rfl
  · rw [exec_data32r h, ← data32rWord_eq_append]
    rfl

/-! ### Register transactions that the host issues -/

/-- `i` is a register transaction issued by the host: after the invalidation of R243 the transaction, whose data phase
sends `tx` and makes `answer` of what it receives (R131 to R134). -/
def RunsTransaction (i : Instr) (bank : Bank) (wr n : Bool) (tx : Config.Params → List Byte) (answer : Quad → Value) :
    Prop :=
  ∃ (α : Type) (value : α → Value) (f : Quad → α) (phase : State → State × Option α),
    (∀ s, exec i s = deliver value (transact bank wr n phase (bypass bank wr s))) ∧
    (∀ u, phase u = (afterData (tx u.params) (answerAt u.env 0) u, (answerAt u.env 0).map f)) ∧
    ∀ d, value (f d) = answer d

theorem runs_wr32 (bank : Bank) (w : Word) :
    RunsTransaction (.wr32 bank w) bank true false (fun _ => quadBytes (data32wBytes w)) fun _ => .unit :=
  ⟨_, _, _, sendData32 w, fun _ => rfl, sendData32_eq w, fun _ => rfl⟩

theorem runs_writeReg32 (bank : Bank) (w : Word) :
    RunsTransaction (.writeReg32 bank w) bank true false (fun _ => quadBytes (data32wBytes w)) fun _ => .unit :=
  runs_wr32 bank w

theorem runs_rd32 (bank : Bank) : RunsTransaction (.rd32 bank) bank false false fill32 fun d => .word (data32rWord d) :=
  ⟨_, _, _, receiveData32, fun s => by rw [bypass_read]; rfl, receiveData32_eq, fun _ => rfl⟩

theorem runs_readReg32 (bank : Bank) :
    RunsTransaction (.readReg32 bank) bank false false fill32 fun d => .word (data32rWord d) :=
  runs_rd32 bank

theorem runs_wr8 (bank : Bank) (b : Byte) :
    RunsTransaction (.wr8 bank b) bank true true (fun _ => [b]) fun _ => .unit :=
  ⟨_, _, _, sendData8 b, fun _ => rfl, sendData8_eq b, fun _ => rfl⟩

theorem runs_writeReg8 (bank : Bank) (b : Byte) :
    RunsTransaction (.writeReg8 bank b) bank true true (fun _ => [b]) fun _ => .unit :=
  runs_wr8 bank b

theorem runs_rd8 (bank : Bank) :
    RunsTransaction (.rd8 bank) bank false true (fun p => [p.txFill]) fun d => .byte d.b0 :=
  ⟨_, _, _, receiveData8, fun s => by rw [bypass_read]; rfl, receiveData8_eq, fun _ => rfl⟩

theorem runs_readReg8 (bank : Bank) :
    RunsTransaction (.readReg8 bank) bank false true (fun p => [p.txFill]) fun d => .byte d.b0 :=
  runs_rd8 bank

theorem statusOkAt_bypass {k : Nat} (h : statusOkAt s k q) : statusOkAt (bypass bank wr s) k q := by
  simpa [statusOkAt] using h

/-- The invalidation before a transfer that fails is in the state after it. -/
theorem failedTransfer_bypass {tx : List Byte} (h : failedTransfer bank wr n tx s t) :
    failedTransfer bank wr n tx (bypass bank wr s) { t with cacheValid := s.cacheValid && !(wr && bank == 0) } := by
  rw [bypass_eq]
  obtain ⟨ha, rfl⟩ | ⟨q, ha, hq, rfl⟩ | ⟨q, hq, ha, rfl⟩ := h
  · exact .inl ⟨ha, rfl⟩
  · exact .inr (.inl ⟨q, ha, hq, rfl⟩)
  · exact .inr (.inr ⟨q, hq, ha, rfl⟩)

section
variable {i : Instr} {tx : Config.Params → List Byte} {answer : Quad → Value}

/-- The result of a transaction whose data exchange is answered with `a`, or fails (R130, R272). -/
def transactionResult (answer : Quad → Value) : Option Quad → OpResult
  | none => .err .communicationError
  | some d => .ok (answer d)

/-- A transaction whose status byte is no error goes through both phases. -/
theorem RunsTransaction.dataPhase (hi : RunsTransaction i bank wr n tx answer) (h : bank.toNat ≤ 10)
    (hq : statusOkAt s 0 q) :
    exec i s = .next ((afterTransaction bank wr n q (tx s.params) (answerAt s.env 1) (bypass bank wr s)).withResult
      (transactionResult answer (answerAt s.env 1))) := by
  obtain ⟨α, value, f, phase, hexec, hphase, hanswer⟩ := hi
  rw [hexec, transact_dataPhase (bankValid_iff.2 h) (statusOkAt_bypass hq), hphase, afterData_afterCommand]
  simp only [afterCommand, bypass_env, bypass_params, answerAt_afterXfers]
  cases answerAt s.env 1 with
  | none => rfl
  | some d =>
    rw [transactionResult, ← hanswer]
    rfl

/-- A transaction answered in both phases. -/
theorem RunsTransaction.answered (hi : RunsTransaction i bank wr n tx answer) (h : bank.toNat ≤ 10)
    (hq : statusOkAt s 0 q) (ha : answerAt s.env 1 = some a) :
    exec i s = .next { afterTransaction bank wr n q (tx s.params) (some a) s with
      cacheValid := s.cacheValid && !(wr && bank == 0)
      result := some (.ok (answer a)) } := by
  rw [hi.dataPhase h hq, ha, bypass_eq]
  rfl

/-- A transaction that fails in one of its exchanges or by its status byte. -/
theorem RunsTransaction.fails (hi : RunsTransaction i bank wr n tx answer) (h : bank.toNat ≤ 10)
    (hf : failedTransfer bank wr n (tx s.params) s t) :
    exec i s = .next { t with
      cacheValid := s.cacheValid && !(wr && bank == 0)
      result := some (.err .communicationError) } := by
  obtain ⟨α, value, f, phase, hexec, hphase, -⟩ := hi
  have hp (u : State) (hu : u.params = (bypass bank wr s).params) :
      phase u = (afterData (tx s.params) (answerAt u.env 0) u, (answerAt u.env 0).map f) := by
    rw [hphase, hu, bypass_params]
  rw [hexec, transact_fails (bankValid_iff.2 h) hp (failedTransfer_bypass hf)]
  rfl

/-- A transaction of a reserved bank. -/
theorem RunsTransaction.rejected (hi : RunsTransaction i bank wr n tx answer) (h : 10 < bank.toNat) :
    exec i s = .next { s with result := some (.err .invalidParameter) } := by
  obtain ⟨α, value, f, phase, hexec, -, -⟩ := hi
  rw [hexec, transact_invalidBank (bankValid_eq_false h), bypass_of_reserved h]
  rfl

end

/-- Settles O26: the four are transactions answered in both phases. -/
theorem fullTransactionsComplete : Obligations.FullTransactionsComplete := by
  intro s bank w q a h hq ha
  refine ⟨⟨_, rfl, ?_, ?_⟩, ⟨_, rfl, ?_, ?_⟩⟩
  · rw [(runs_writeReg32 bank w).answered h hq ha]
    rfl
  · rw [(runs_wr32 bank w).answered h hq ha]
    rfl
  · rw [(runs_readReg32 bank).answered h hq ha]
    simp [afterTransaction, fill32]
  · rw [(runs_rd32 bank).answered h hq ha]
    simp [afterTransaction, fill32]

/-- Settles O27, as for the full ones. -/
theorem narrowTransactionsComplete : Obligations.NarrowTransactionsComplete := by
  intro s bank b q a h hq ha
  refine ⟨⟨_, rfl, ?_, ?_⟩, ⟨_, rfl, ?_, ?_⟩⟩
  · rw [(runs_writeReg8 bank b).answered h hq ha]
    rfl
  · rw [(runs_wr8 bank b).answered h hq ha]
    rfl
  · rw [(runs_readReg8 bank).answered h hq ha]
    simp [afterTransaction]
  · rw [(runs_rd8 bank).answered h hq ha]
    simp [afterTransaction]

/-- The data phases that take the environment's answer, when it is none (R272). -/
theorem dataPhase_fails {i : Instr} {w : Word} {b : Byte} {x : Quad} {tx : List Byte}
    (hi : (i, wr, n, tx) ∈ [(.writeData32 w, true, false, quadBytes (data32wBytes w)),
      (.readData32, false, false, fill32 s.params), (.writeData8 b, true, true, [b]),
      (.readData8, false, true, [s.params.txFill]), (.data32w x, true, false, quadBytes x),
      (.data8w b, true, true, [b])])
    (h : pendingMatches wr n s = true) (ha : answerAt s.env 0 = none) :
    exec i s = .next ((afterData tx none s).withResult .transportError) := by
  simp only [List.mem_cons, List.not_mem_nil, or_false, Prod.mk.injEq] at hi
  obtain ⟨rfl, rfl, rfl, rfl⟩ | ⟨rfl, rfl, rfl, rfl⟩ | ⟨rfl, rfl, rfl, rfl⟩ | ⟨rfl, rfl, rfl, rfl⟩ |
    ⟨rfl, rfl, rfl, rfl⟩ | ⟨rfl, rfl, rfl, rfl⟩ := hi
  · rw [exec_writeData32 h, ha]; rfl
  · rw [exec_readData32 h, ha]; rfl
  · rw [exec_writeData8 h, ha]; rfl
  · rw [exec_readData8 h, ha]; rfl
  · rw [exec_data32w, exec_writeData32 h, ha, data32wBytes_data32wWord]; rfl
  · rw [exec_data8w, exec_writeData8 h, ha]; rfl

/-- Settles O28: a failed exchange is one of the three ways a transaction fails. -/
theorem transportFailureIsReported : Obligations.TransportFailureIsReported := by
  intro s bank w b x wr n tx i hb
  refine ⟨fun ha => exec_writeCommand_failed hb ha, fun hi hm ha => dataPhase_fails hi hm ha, fun hi => ?_⟩
  suffices hr : ∃ txOf answer, RunsTransaction i bank wr n txOf answer ∧ txOf s.params = tx by
    obtain ⟨txOf, answer, hr, rfl⟩ := hr
    refine ⟨fun t hf => hr.fails hb hf, fun ha => ?_, fun q hq ha => ?_⟩
    · exact ⟨_, hr.fails hb (.inl ⟨ha, rfl⟩), rfl, rfl, rfl, rfl⟩
    · exact ⟨_, hr.fails hb (.inr (.inr ⟨q, hq, ha, rfl⟩)), rfl, rfl, fun he => hq.2 (Option.some.inj he), rfl, rfl⟩
  simp only [List.mem_cons, List.not_mem_nil, or_false, Prod.mk.injEq] at hi
  obtain ⟨rfl, rfl, rfl, rfl⟩ | ⟨rfl, rfl, rfl, rfl⟩ | ⟨rfl, rfl, rfl, rfl⟩ | ⟨rfl, rfl, rfl, rfl⟩ |
    ⟨rfl, rfl, rfl, rfl⟩ | ⟨rfl, rfl, rfl, rfl⟩ | ⟨rfl, rfl, rfl, rfl⟩ | ⟨rfl, rfl, rfl, rfl⟩ := hi
  · exact ⟨_, _, runs_rd32 bank, rfl⟩
  · exact ⟨_, _, runs_readReg32 bank, rfl⟩
  · exact ⟨_, _, runs_wr32 bank w, rfl⟩
  · exact ⟨_, _, runs_writeReg32 bank w, rfl⟩
  · exact ⟨_, _, runs_rd8 bank, rfl⟩
  · exact ⟨_, _, runs_readReg8 bank, rfl⟩
  · exact ⟨_, _, runs_wr8 bank b, rfl⟩
  · exact ⟨_, _, runs_writeReg8 bank b, rfl⟩

/-- Settles O29: the error status byte is another. -/
theorem errorStatusEndsTransaction : Obligations.ErrorStatusEndsTransaction := by
  intro s bank w b q wr n i hb hi ha hq
  suffices hr : ∃ tx answer, RunsTransaction i bank wr n tx answer by
    obtain ⟨tx, answer, hr⟩ := hr
    rw [hr.fails hb (.inr (.inl ⟨q, ha, hq, rfl⟩)), ← hq]
    rfl
  simp only [List.mem_cons, List.not_mem_nil, or_false, Prod.mk.injEq] at hi
  obtain ⟨rfl, rfl, rfl⟩ | ⟨rfl, rfl, rfl⟩ | ⟨rfl, rfl, rfl⟩ | ⟨rfl, rfl, rfl⟩ | ⟨rfl, rfl, rfl⟩ | ⟨rfl, rfl, rfl⟩ |
    ⟨rfl, rfl, rfl⟩ | ⟨rfl, rfl, rfl⟩ := hi
  · exact ⟨_, _, runs_rd32 bank⟩
  · exact ⟨_, _, runs_readReg32 bank⟩
  · exact ⟨_, _, runs_wr32 bank w⟩
  · exact ⟨_, _, runs_writeReg32 bank w⟩
  · exact ⟨_, _, runs_rd8 bank⟩
  · exact ⟨_, _, runs_readReg8 bank⟩
  · exact ⟨_, _, runs_wr8 bank b⟩
  · exact ⟨_, _, runs_writeReg8 bank b⟩

/-- The two raw accesses check the bank first (R224). -/
theorem exec_rawWriteRegister_rejected (h : rawWritable bank = false) (w : Word) :
    exec (.rawWriteRegister bank w) s = .next { s with result := some (.err .invalidParameter) } := by
  have arm : exec (.rawWriteRegister bank w) s = deliver (fun _ => .unit) (rawWriteRegister bank w s) := rfl
  rw [arm, rawWriteRegister, h]
  rfl

theorem exec_rawReadRegister_rejected (h : bankValid bank = false) :
    exec (.rawReadRegister bank) s = .next { s with result := some (.err .invalidParameter) } := by
  have arm : exec (.rawReadRegister bank) s = deliver .word (rawReadRegister bank s) := rfl
  rw [arm, rawReadRegister, h]
  rfl

/-- Settles O30: the transactions by their one rule, the command phase and the raw accesses by their own checks. -/
theorem reservedBankRejected : Obligations.ReservedBankRejected := by
  intro s bank w b wr n i h hi
  have invalid := bankValid_eq_false h
  simp only [List.mem_cons, List.not_mem_nil, or_false] at hi
  obtain rfl | rfl | rfl | rfl | rfl | rfl | rfl | rfl | rfl | rfl | rfl := hi
  · exact (runs_rd32 bank).rejected h
  · exact (runs_wr32 bank w).rejected h
  · exact (runs_rd8 bank).rejected h
  · exact (runs_wr8 bank b).rejected h
  · exact exec_writeCommand_rejected h
  · exact (runs_writeReg32 bank w).rejected h
  · exact (runs_readReg32 bank).rejected h
  · exact (runs_writeReg8 bank b).rejected h
  · exact (runs_readReg8 bank).rejected h
  · exact exec_rawWriteRegister_rejected (by simp [rawWritable, invalid]) w
  · exact exec_rawReadRegister_rejected invalid

/-- After a transfer that failed no command is pending, and it made one exchange or two. -/
theorem failedTransfer_ends {tx : List Byte} (h : failedTransfer bank wr n tx s t) :
    t.pending = none ∧ (t.env = afterXfers s.env 1 ∨ t.env = afterXfers s.env 2) := by
  obtain ⟨-, rfl⟩ | ⟨q, -, -, rfl⟩ | ⟨q, -, -, rfl⟩ := h
  · exact ⟨rfl, .inl rfl⟩
  · exact ⟨rfl, .inl rfl⟩
  · exact ⟨rfl, .inr rfl⟩

/-- A transaction is answered, fails or is rejected. -/
theorem RunsTransaction.ends {i : Instr} {tx : Config.Params → List Byte} {answer : Quad → Value}
    (hi : RunsTransaction i bank wr n tx answer) (h : exec i s = .next t) :
    (bank.toNat ≤ 10 → t.pending = none ∧ (t.env = afterXfers s.env 1 ∨ t.env = afterXfers s.env 2)) ∧
    (10 < bank.toNat → t.env = s.env ∧ t.trace = s.trace) := by
  constructor
  · intro hb
    obtain ⟨q, d, hq, hd⟩ | ⟨u, hf⟩ := answered_or_fails bank wr n (tx s.params) s
    · cases h.symm.trans (hi.answered hb hq hd)
      exact ⟨rfl, .inr rfl⟩
    · have ends := failedTransfer_ends hf
      cases h.symm.trans (hi.fails hb hf)
      exact ends
  · intro hb
    cases h.symm.trans (hi.rejected hb)
    exact ⟨rfl, rfl⟩

/-- Settles O31: however a transaction ends. -/
theorem transactionMakesAtMostTwoExchanges : Obligations.TransactionMakesAtMostTwoExchanges := by
  intro s t bank w b i hi h
  simp only [List.mem_cons, List.not_mem_nil, or_false] at hi
  obtain rfl | rfl | rfl | rfl | rfl | rfl | rfl | rfl := hi
  · exact (runs_rd32 bank).ends h
  · exact (runs_wr32 bank w).ends h
  · exact (runs_rd8 bank).ends h
  · exact (runs_wr8 bank b).ends h
  · exact (runs_writeReg32 bank w).ends h
  · exact (runs_readReg32 bank).ends h
  · exact (runs_writeReg8 bank b).ends h
  · exact (runs_readReg8 bank).ends h

/-! ### A transaction as its two phases (R100) -/

/-- `j` is the data phase that the host issues after a command of this direction and width. -/
def RunsDataPhase (j : Instr) (wr n : Bool) (tx : Config.Params → List Byte) (answer : Quad → Value) : Prop :=
  ∀ t, pendingMatches wr n t = true → exec j t =
    .next ((afterData (tx t.params) (answerAt t.env 0) t).withResult (phaseResult answer (answerAt t.env 0)))

theorem phaseResult_map {α : Type} (value : α → Value) (f : Quad → α) (a : Option Quad) :
    phaseResult value (a.map f) = phaseResult (fun d => value (f d)) a := by
  cases a <;> rfl

/-- What the host's command phase left when it reported no communication error. -/
theorem exec_writeCommand_inv {c : CommStatus} (hc : c.commError = false) (hr : t.result = some (.ok (.commStatus c)))
    (h : exec (.writeCommand bank wr n) s = .next t) : ∃ q, bank.toNat ≤ 10 ∧ statusOkAt s 0 q ∧
      t = (afterCommand bank wr n q (bypass bank wr s)).withResult (.ok (.commStatus c)) := by
  by_cases hb : bank.toNat ≤ 10
  · cases ha : answerAt s.env 0 with
    | none =>
      cases h.symm.trans (exec_writeCommand_failed hb ha)
      cases hr
    | some q =>
      cases h.symm.trans (exec_writeCommand_answered hb ha)
      cases hr
      exact ⟨q, hb, ⟨ha, by simpa [commStatusOf, commError] using hc⟩, by rw [bypass_eq]; rfl⟩
  · cases h.symm.trans (exec_writeCommand_rejected (Nat.lt_of_not_le hb))
    cases hr

/-- The data phase after the command phase, from the state that left. -/
theorem RunsDataPhase.exec_eq {j : Instr} {tx : Config.Params → List Byte} {answer : Quad → Value}
    (hj : RunsDataPhase j wr n tx answer) (r : OpResult) :
    exec j ((afterCommand bank wr n q s).withResult r) =
      .next ((afterTransaction bank wr n q (tx s.params) (answerAt s.env 1) s).withResult
        (phaseResult answer (answerAt s.env 1))) := by
  have ha : answerAt ((afterCommand bank wr n q s).withResult r).env 0 = answerAt s.env 1 :=
    answerAt_afterXfers s.env 1 0
  rw [hj _ (pendingMatches_iff.2 ⟨bank, rfl⟩), ha, ← afterData_afterCommand]
  rfl

/-- The command phase, and the data phase from the state it left, are the transaction. -/
theorem RunsTransaction.twoPhases {i j : Instr} {tx : Config.Params → List Byte} {answer : Quad → Value}
    (hi : RunsTransaction i bank wr n tx answer) (hj : RunsDataPhase j wr n tx answer) {c : CommStatus}
    (hc : c.commError = false) (hr : t.result = some (.ok (.commStatus c)))
    (h : exec (.writeCommand bank wr n) s = .next t) :
    ∃ t2 r, exec j t = .next t2 ∧ exec i s = .next (t2.withResult r) ∧
      ((∃ a, t2.result = some (.ok (answer a)) ∧ r = .ok (answer a)) ∨
        t2.result = some .transportError ∧ r = .err .communicationError) := by
  obtain ⟨q, hb, hq, rfl⟩ := exec_writeCommand_inv hc hr h
  have second := hj.exec_eq (bank := bank) (q := q) (s := bypass bank wr s) (.ok (.commStatus c))
  rw [bypass_env, bypass_params] at second
  refine ⟨_, _, second, hi.dataPhase hb hq, ?_⟩
  cases answerAt s.env 1 with
  | none => exact .inr ⟨rfl, rfl⟩
  | some d => exact .inl ⟨d, rfl, rfl⟩

/-- Settles O32: each access, its command phase and its data phase run through the same states. -/
theorem transactionIsItsTwoPhases : Obligations.TransactionIsItsTwoPhases := by
  intro s t1 bank w b c hc hr
  refine ⟨fun h => ?_, fun h => ?_, fun h => ?_, fun h => ?_⟩
  · obtain ⟨t2, r, h1, h2, ⟨_, h3⟩ | h3⟩ := (runs_wr32 bank w).twoPhases
      (fun t ht => by rw [exec_writeData32 ht, phaseResult_map]) hc hr h
    exacts [⟨t2, r, h1, h2, .inl h3⟩, ⟨t2, r, h1, h2, .inr h3⟩]
  · obtain ⟨t2, r, h1, h2, ⟨_, h3⟩ | h3⟩ := (runs_rd32 bank).twoPhases
      (fun t ht => by rw [exec_readData32 ht, phaseResult_map]) hc hr h
    exacts [⟨t2, r, h1, h2, .inl ⟨_, h3⟩⟩, ⟨t2, r, h1, h2, .inr h3⟩]
  · obtain ⟨t2, r, h1, h2, ⟨_, h3⟩ | h3⟩ := (runs_wr8 bank b).twoPhases
      (fun t ht => by rw [exec_writeData8 ht, phaseResult_map]) hc hr h
    exacts [⟨t2, r, h1, h2, .inl h3⟩, ⟨t2, r, h1, h2, .inr h3⟩]
  · obtain ⟨t2, r, h1, h2, ⟨_, h3⟩ | h3⟩ := (runs_rd8 bank).twoPhases
      (fun t ht => by rw [exec_readData8 ht, phaseResult_map]) hc hr h
    exacts [⟨t2, r, h1, h2, .inl ⟨_, h3⟩⟩, ⟨t2, r, h1, h2, .inr h3⟩]

/-- Settles O25, by the definitions. -/
theorem statusByteComparedAndLastStatusRead : Obligations.StatusByteComparedAndLastStatusRead :=
  fun _ _ => ⟨rfl, rfl⟩

end Sys2Proof.Machine

/-! The Unit Conversion Layer: rounding, the linear mapping and its inverse, duty ranges and timing codes (R181 to
R191). -/

namespace Sys2Proof.Machine

/-! ### Rounding and codes of a fixed width -/

/-- A value of at least zero is rounded half up (R11). -/
theorem roundQ_of_nonneg {q : Rat} (h : 0 ≤ q) : roundQ q = ⌊q + 1 / 2⌋ := if_pos h

theorem roundQ_intCast {z : Int} (h : 0 ≤ z) : roundQ z = z := by
  rw [roundQ_of_nonneg (by exact_mod_cast h), Int.floor_eq_iff]
  norm_num

theorem toNat_ofInt_of_lt {n : Nat} {z : Int} (h0 : 0 ≤ z) (h : z < 2 ^ n) : ((BitVec.ofInt n z).toNat : Int) = z := by
  rw [BitVec.toNat_ofInt, Int.emod_eq_of_lt h0 (by exact_mod_cast h), Int.toNat_of_nonneg h0]

/-! ### The linear mapping (R182, R185) -/

/-- For a positive full scale the code is the rounded quotient between its bounds. -/
theorem toNat_linearCode {f : Rat} (hf : 0 < f) (v : Rat) :
    ((linearCode f v).toNat : Int) = max 0 (min 127 ⌊v * 127 / f + 1 / 2⌋) := by
  by_cases hv : v ≤ 0
  · have hq : v * 127 / f ≤ 0 := div_nonpos_of_nonpos_of_nonneg (by linarith) hf.le
    have hfloor : ⌊v * 127 / f + 1 / 2⌋ < 1 := Int.floor_lt.2 (by push_cast; linarith)
    have hcode : (linearCode f v).toNat = 0 := by simp [linearCode, hv]
    omega
  · have hq : 0 ≤ v * 127 / f := div_nonneg (by linarith) hf.le
    have hfloor : 0 ≤ ⌊v * 127 / f + 1 / 2⌋ := Int.floor_nonneg.2 (by linarith)
    rw [linearCode, if_neg hv, roundQ_of_nonneg hq, Config.codeMax, toNat_ofInt_of_lt] <;> omega

theorem linearCode_of_nonpos {v : Rat} (f : Rat) (hv : v ≤ 0) : linearCode f v = 0 := if_pos hv

theorem toNat_linearCode_of_pos {f v : Rat} (hf : 0 < f) (hv : 0 < v) :
    ((linearCode f v).toNat : Int) = min 127 ⌊v * 127 / f + 1 / 2⌋ := by
  have hq : 0 ≤ v * 127 / f := div_nonneg (by linarith) hf.le
  have hfloor : 0 ≤ ⌊v * 127 / f + 1 / 2⌋ := Int.floor_nonneg.2 (by linarith)
  rw [toNat_linearCode hf]
  omega

theorem codeFromMa_of_pos {f : Rat} (hf : 0 < f) (v : Rat) :
    codeFromMa (.finite f) (.finite v) = .ok (linearCode f v) := if_neg (not_le.2 hf)

theorem codeFromMa_of_nonpos {f : Rat} (hf : f ≤ 0) (v : Rat) :
    codeFromMa (.finite f) (.finite v) = .error .invalidParameter := if_pos hf

/-- Settles O37, by the table. -/
theorem chopFrequencyTable : Obligations.ChopFrequencyTable :=
  fun _ => ⟨rfl, rfl, rfl, rfl, rfl, rfl, rfl, rfl⟩

/-- Settles O38: the two mappings are one, with the full scale given or 100 percent. -/
theorem linearCodesComplete : Obligations.LinearCodesComplete := by
  have arm (full ma : EngValue) (s : State) :
      exec (.codeFromMa full ma) s = .next (s.withResult (resultOf .code7 (codeFromMa full ma))) := rfl
  intro s f v
  refine ⟨fun hf => ⟨linearCode f v, ?_, linearCode_of_nonpos f, toNat_linearCode_of_pos hf⟩,
    ⟨linearCode 100 v, rfl, linearCode_of_nonpos 100, toNat_linearCode_of_pos (by norm_num)⟩, fun hf => ?_, fun e => ?_⟩
  · rw [arm, codeFromMa_of_pos hf]
    rfl
  · rw [arm, codeFromMa_of_nonpos hf]
    rfl
  · cases e <;> exact ⟨rfl, rfl⟩

/-- Settles O43, from the closed form of a code; the integer form is its quotient with a common denominator. -/
theorem currentCodeMonotoneAndSaturating : Obligations.CurrentCodeMonotoneAndSaturating := by
  refine ⟨fun f v v' c c' hf hv hc hc' => ?_, fun f v hf hv => ?_, fun f v hf => ?_⟩
  · rw [codeFromMa_of_pos hf] at hc hc'
    cases hc
    cases hc'
    have hq : v * 127 / f ≤ v' * 127 / f := by gcongr
    have hfloor : ⌊v * 127 / f + 1 / 2⌋ ≤ ⌊v' * 127 / f + 1 / 2⌋ := Int.floor_le_floor (by linarith)
    have h := toNat_linearCode hf v
    have h' := toNat_linearCode hf v'
    omega
  · have hq : 127 ≤ v * 127 / f := by
      rw [le_div_iff₀ hf]
      linarith
    have hfloor : 127 ≤ ⌊v * 127 / f + 1 / 2⌋ := Int.le_floor.2 (by push_cast; linarith)
    have h := toNat_linearCode hf v
    rw [codeFromMa_of_pos hf]
    congr 1
    apply BitVec.eq_of_toNat_eq
    simp
    omega
  · have hf' : (0 : Rat) < f := by exact_mod_cast hf
    refine ⟨linearCode f v, codeFromMa_of_pos hf' v, ?_⟩
    have hq : (v : Rat) * 127 / f + 1 / 2 = ((254 * v + f : Nat) : Rat) / ((2 * f : Nat) : Rat) := by
      push_cast
      field_simp
      ring
    have h := toNat_linearCode hf' v
    rw [hq, Rat.floor_natCast_div_natCast, ← Int.natCast_ediv] at h
    generalize (254 * v + f) / (2 * f) = quotient at h ⊢
    omega

/-! ### Milliamps and back (R183, R184) -/

theorem maFromCode_of_nonneg {f : Rat} (hf : 0 ≤ f) (c : Code7) :
    maFromCode f c = ⌊(c.toNat : Rat) * f / 127 + 1 / 2⌋ :=
  roundQ_of_nonneg (by positivity)

/-- The milliamps of a code are within a half of the exact value. -/
theorem maFromCode_bounds {f : Rat} (hf : 0 ≤ f) (c : Code7) :
    (c.toNat : Rat) * f - 127 / 2 < maFromCode f c * 127 ∧ (maFromCode f c : Rat) * 127 ≤ c.toNat * f + 127 / 2 := by
  rw [maFromCode_of_nonneg hf]
  have hle := Int.floor_le ((c.toNat : Rat) * f / 127 + 1 / 2)
  have hlt := Int.lt_floor_add_one ((c.toNat : Rat) * f / 127 + 1 / 2)
  constructor <;> linarith

/-- At a full scale of 127 mA a code is its milliamps. -/
theorem maFromCode_127 (c : Code7) : maFromCode 127 c = c.toNat := by
  rw [maFromCode_of_nonneg (by norm_num), Int.floor_eq_iff]
  push_cast
  constructor <;> linarith

theorem codeFromMa_maFromCode {f : Rat} (hf : 127 ≤ f) (c : Code7) :
    codeFromMa (.finite f) (.finite (maFromCode f c)) = .ok c := by
  have hf0 : 0 < f := by linarith
  have hc := c.isLt
  have hfloor : ⌊(maFromCode f c : Rat) * 127 / f + 1 / 2⌋ = c.toNat := by
    rw [Int.floor_eq_iff, ← sub_le_iff_le_add, ← lt_sub_iff_add_lt, le_div_iff₀ hf0, div_lt_iff₀ hf0]
    push_cast
    obtain rfl | hlt := hf.eq_or_lt
    · rw [maFromCode_127]
      push_cast
      constructor <;> linarith
    · obtain ⟨hlo, hhi⟩ := maFromCode_bounds hf0.le c
      constructor <;> linarith
  have h := toNat_linearCode hf0 (maFromCode f c)
  rw [codeFromMa_of_pos hf0]
  congr 1
  apply BitVec.eq_of_toNat_eq
  omega

/-- Settles O44: the milliamps are within a half of the exact value, which moves the quotient by less
than one and a half. -/
theorem currentCodeRoundTrip : Obligations.CurrentCodeRoundTrip := by
  intro f c
  refine ⟨fun hf => codeFromMa_maFromCode hf c, fun hf => ?_⟩
  have hf0 : 0 < f := by linarith
  obtain ⟨hlo, hhi⟩ := maFromCode_bounds hf0.le c
  have hle : ⌊(maFromCode f c : Rat) * 127 / f + 1 / 2⌋ < c.toNat + 2 := by
    rw [Int.floor_lt, ← lt_sub_iff_add_lt, div_lt_iff₀ hf0]
    push_cast
    linarith
  have hge : (c.toNat : Int) - 1 ≤ ⌊(maFromCode f c : Rat) * 127 / f + 1 / 2⌋ := by
    rw [Int.le_floor, ← sub_le_iff_le_add, le_div_iff₀ hf0]
    push_cast
    linarith
  have h := toNat_linearCode hf0 (maFromCode f c)
  exact ⟨_, codeFromMa_of_pos hf0 _, by omega, by omega⟩

/-! ### Duty ranges (R187 to R189) -/

/-- The pairs of base and selector at which slew-rate control is illegal (R188). -/
theorem slewIllegal_iff : ∀ (base : ClockBase) (sel : Sel2) (src : Bool), slewIllegal base sel src = true ↔
    src = true ∧ ((base = .base100k ∧ (sel = 2 ∨ sel = 3)) ∨ (base = .base80k ∧ sel = 3)) := by
  intro base
  cases base <;> decide

theorem dutyLimits_illegal {p : Config.Params} {base : ClockBase} {sel : Sel2} {src : Bool}
    (h : slewIllegal base sel src = true) : dutyLimits p base sel src = .error .invalidParameter := if_pos h

theorem dutyLimits_legal {p : Config.Params} {base : ClockBase} {sel : Sel2} {src : Bool}
    (h : ¬ slewIllegal base sel src = true) : dutyLimits p base sel src =
      .ok (if src then 7 else if sel = p.dutyNarrowSel then 8 else 4,
        if src then 93 else if sel = p.dutyNarrowSel then 92 else 96) := by
  rw [dutyLimits, if_neg h]
  split
  · rfl
  · split <;> rfl

theorem codeFromDuty_illegal {p : Config.Params} {base : ClockBase} {sel : Sel2} {src : Bool} (pct : EngValue)
    (h : slewIllegal base sel src = true) : codeFromDuty p pct base sel src = .error .invalidParameter := by
  cases pct with
  | nonFinite => rfl
  | finite q => rw [codeFromDuty, dutyLimits_illegal h]

/-- The percent is clamped and then mapped, for any legal range within 4 to 96, so that no code of 0 or 127 arises. -/
theorem toNat_dutyCodeLinear_clampQ {lo hi : Nat} (hlo : 4 ≤ lo) (hlohi : lo ≤ hi) (hhi : hi ≤ 96) (q : Rat) :
    ((dutyCodeLinear (clampQ q lo hi)).toNat : Int) = ⌊max (lo : Rat) (min hi q) * 127 / 100 + 1 / 2⌋ ∧
      5 ≤ (dutyCodeLinear (clampQ q lo hi)).toNat ∧ (dutyCodeLinear (clampQ q lo hi)).toNat ≤ 122 := by
  have hlo' : (4 : Rat) ≤ lo := by exact_mod_cast hlo
  have hhi' : (hi : Rat) ≤ 96 := by exact_mod_cast hhi
  have hlohi' : (lo : Rat) ≤ hi := by exact_mod_cast hlohi
  have hmin : 4 ≤ max (lo : Rat) (min hi q) := le_max_of_le_left hlo'
  have hmax : max (lo : Rat) (min hi q) ≤ 96 := max_le (hlohi'.trans hhi') (min_le_of_left_le hhi')
  have h := toNat_linearCode (f := 100) (by norm_num) (max (lo : Rat) (min hi q))
  have hge : 5 ≤ ⌊max (lo : Rat) (min hi q) * 127 / 100 + 1 / 2⌋ := Int.le_floor.2 (by push_cast; linarith)
  have hlt : ⌊max (lo : Rat) (min hi q) * 127 / 100 + 1 / 2⌋ < 123 := Int.floor_lt.2 (by push_cast; linarith)
  rw [dutyCodeLinear, clampQ]
  omega

/-- Settles O40, by whether slew-rate control is legal. -/
theorem dutyConversionsComplete : Obligations.DutyConversionsComplete := by
  have armLimits (base : ClockBase) (sel : Sel2) (src : Bool) (s : State) : exec (.dutyLimits base sel src) s =
      .next (s.withResult (resultOf (fun r => .dutyRange r.1 r.2) (dutyLimits s.params base sel src))) := rfl
  have armCode (pct : EngValue) (base : ClockBase) (sel : Sel2) (src : Bool) (s : State) :
      exec (.codeFromDuty pct base sel src) s =
        .next (s.withResult (resultOf .code7 (codeFromDuty s.params pct base sel src))) := rfl
  intro s base sel src illegal lo hi
  have hillegal : slewIllegal base sel src = true ↔ illegal := slewIllegal_iff base sel src
  refine ⟨fun h => ⟨?_, fun p => ?_⟩, fun h => ⟨?_, fun p => ?_⟩, rfl⟩
  · rw [armLimits, dutyLimits_illegal (hillegal.2 h)]
    rfl
  · rw [armCode, codeFromDuty_illegal p (hillegal.2 h)]
    rfl
  · rw [armLimits, dutyLimits_legal (mt hillegal.1 h)]
    rfl
  · have hlo : 4 ≤ lo := by
      simp only [lo]
      split_ifs <;> decide
    have hlohi : lo ≤ hi := by
      simp only [lo, hi]
      split_ifs <;> decide
    have hhi : hi ≤ 96 := by
      simp only [hi]
      split_ifs <;> decide
    refine ⟨dutyCodeLinear (clampQ p lo hi), ?_, toNat_dutyCodeLinear_clampQ hlo hlohi hhi p⟩
    rw [armCode, codeFromDuty, dutyLimits_legal (mt hillegal.1 h)]
    rfl

/-! ### Timing codes (R190, R191) -/

theorem chopFrequency_bounds {khz : Nat} (h : khzWellFormed khz = true) : 20 ≤ khz ∧ khz ≤ 100 := by
  simp only [khzWellFormed, chopFrequencies, List.contains_iff_mem, List.mem_cons, List.not_mem_nil, or_false] at h
  obtain rfl | rfl | rfl | rfl | rfl | rfl | rfl | rfl := h <;> decide

/-- Between the sentinels the code is the rounded value between 1 and 254. -/
theorem codeFromMs_of_mem {ms : Rat} (h0 : 0 < ms) (h1 : ms < 1000000) (khz : Nat) :
    codeFromMs (.finite ms) khz = .ok (BitVec.ofInt 8 (max 1 (min 254 ⌊ms * khz / 40 + 1 / 2⌋))) := by
  have hq : 0 ≤ ms * khz / 40 := by positivity
  have hlimit : ¬ (ms < 0 ∨ Config.msContLimit ≤ ms) := by
    rintro (h | h)
    · exact absurd h0 (not_lt.2 h.le)
    · exact absurd h1 (not_lt.2 h)
  simp only [codeFromMs, if_neg h0.ne', if_neg hlimit, clampInt, Config.timeDiv, roundQ_of_nonneg hq]

theorem codeFromMs_continuous {ms : Rat} (h : ms < 0 ∨ 1000000 ≤ ms) (khz : Nat) :
    codeFromMs (.finite ms) khz = .ok 255 := by
  have h0 : ms ≠ 0 := by
    rintro rfl
    norm_num at h
  simp only [codeFromMs, if_neg h0]
  exact if_pos h

theorem codeFromMs_zero (khz : Nat) : codeFromMs (.finite 0) khz = .ok 0 := by
  simp only [codeFromMs, if_true]
  rfl

/-- Settles O41: at zero, outside the range, and between. -/
theorem timingCodesComplete : Obligations.TimingCodesComplete := by
  have arm (ms : EngValue) (khz : Nat) (s : State) :
      exec (.codeFromMs ms khz) s = .next (s.withResult (resultOf .code8 (codeFromMs ms khz))) := rfl
  intro s ms khz _
  refine ⟨?_, rfl⟩
  rw [arm]
  by_cases hout : ms < 0 ∨ 1000000 ≤ ms
  · rw [codeFromMs_continuous hout]
    refine ⟨255, rfl, fun h => ?_, fun _ => rfl, fun h0 h1 => ?_⟩
    · subst h
      norm_num at hout
    · exact absurd hout (by rintro (h | h) <;> linarith)
  · obtain ⟨hge, hlt⟩ := not_or.1 hout
    obtain rfl | hpos := (not_lt.1 hge).eq_or_lt
    · exact ⟨0, by rw [codeFromMs_zero]; rfl, fun _ => rfl, fun h => absurd h hout, fun h => absurd h (lt_irrefl 0)⟩
    · rw [codeFromMs_of_mem hpos (not_le.1 hlt)]
      refine ⟨_, rfl, fun h => absurd h hpos.ne', fun h => absurd h hout, fun _ _ => toNat_ofInt_of_lt ?_ ?_⟩ <;> omega

/-- Settles O42: a code that is no sentinel is the exact quotient of its milliseconds. -/
theorem timingRoundTrip : Obligations.TimingRoundTrip := by
  intro c khz h
  obtain ⟨hlo, -⟩ := chopFrequency_bounds h
  have hkhz : (20 : Rat) ≤ khz := by exact_mod_cast hlo
  by_cases h0 : c = 0
  · rw [h0]
    exact codeFromMs_zero khz
  by_cases h255 : c = 255
  · have hms : msFromCode 255 khz = -1 := by rw [msFromCode, if_neg (by decide), if_pos rfl]
    rw [h255, hms]
    exact codeFromMs_continuous (.inl (by norm_num)) khz
  have hms : msFromCode c khz = (c.toNat : Rat) * 40 / khz := by
    rw [msFromCode, if_neg h0, if_neg h255]
  have hc0 : 0 < c.toNat := Nat.pos_of_ne_zero fun h => h0 (BitVec.eq_of_toNat_eq h)
  have hc : c.toNat < 255 := by
    have := c.isLt
    have : c.toNat ≠ 255 := fun h => h255 (BitVec.eq_of_toNat_eq h)
    omega
  have hcq : (0 : Rat) < c.toNat ∧ (c.toNat : Rat) < 255 := by exact_mod_cast And.intro hc0 hc
  have hpos : 0 < msFromCode c khz := by
    rw [hms]
    have := hcq.1
    positivity
  have hlt : msFromCode c khz < 1000000 := by
    rw [hms, div_lt_iff₀ (by linarith)]
    linarith
  have hq : msFromCode c khz * khz / 40 = c.toNat := by
    rw [hms]
    field_simp
  have hfloor : ⌊(c.toNat : Rat) + 1 / 2⌋ = c.toNat := by
    rw [Int.floor_eq_iff]
    push_cast
    constructor <;> linarith
  rw [codeFromMs_of_mem hpos hlt, hq, hfloor]
  congr 1
  apply BitVec.eq_of_toNat_eq
  have := toNat_ofInt_of_lt (n := 8) (z := max 1 (min 254 (c.toNat : Int))) (by omega) (by omega)
  omega

/-! ### A whole channel (R193 to R196) -/

theorem codeFromMs_ok (ms : Rat) (khz : Nat) : ∃ c, codeFromMs (.finite ms) khz = .ok c := by
  simp only [codeFromMs]
  split
  · exact ⟨_, rfl⟩
  · split <;> exact ⟨_, rfl⟩

theorem codeFromDuty_legal {p : Config.Params} {base : ClockBase} {sel : Sel2} {src : Bool} (q : Rat)
    (h : ¬ slewIllegal base sel src = true) : ∃ c, codeFromDuty p (.finite q) base sel src = .ok c := by
  rw [codeFromDuty, dutyLimits_legal h]
  exact ⟨_, rfl⟩

theorem capped_eq (ceiling : Option Rat) (v : Rat) : capped ceiling v = ceiling.elim v fun c => min v c := by
  cases ceiling <;> rfl

/-- A ceiling that is absent or not below the value changes nothing (R193). -/
theorem capped_of_le {ceiling : Option Rat} {v : Rat} (h : ∀ c ∈ ceiling, v ≤ c) : capped ceiling v = v := by
  cases ceiling with
  | none => rfl
  | some c => exact min_eq_left (h c rfl)

/-- The record of a configuration whose codes are known: every flag is copied. -/
def quantized (cfg : ChannelConfig) (hitCode holdCode : Code7) (timeCode : Code8) : ChannelRaw where
  halfScale := cfg.halfScale
  holdCode := holdCode
  trigger := cfg.trigger
  hitCode := hitCode
  hitTimeCode := timeCode
  driveMode := cfg.driveMode
  sideMode := cfg.sideMode
  chopSel := cfg.chopSel
  slewRateControl := cfg.slewRateControl
  openLoadEn := cfg.openLoadEn
  plungerDetectEn := cfg.plungerDetectEn
  hitCheckEn := cfg.hitCheckEn

section
variable {p : Config.Params} {cfg : ChannelConfig} {ctx : ConvContext} {board : BoardScale} {hit hold ms : Rat}
  {hitCode holdCode : Code7} {timeCode : Code8}

theorem quantizeChannel_current (hhit : cfg.hitSetpoint = .finite hit) (hhold : cfg.holdSetpoint = .finite hold)
    (hms : cfg.hitTimeMs = .finite ms) (hslew : ¬ slewIllegal ctx.clockBase cfg.chopSel cfg.slewRateControl = true)
    (hmode : cfg.driveMode = .current)
    (h1 : codeFromMa (.finite ctx.fullScaleMa) (.finite (capped board.maxCurrentMa hit)) = .ok hitCode)
    (h2 : codeFromMa (.finite ctx.fullScaleMa) (.finite (capped board.maxCurrentMa hold)) = .ok holdCode)
    (h3 : codeFromMs (.finite ms) (chopKhz ctx.clockBase cfg.chopSel) = .ok timeCode) :
    quantizeChannel p cfg ctx board = .ok (quantized cfg hitCode holdCode timeCode) := by
  simp only [quantizeChannel, hhit, hhold, hms, if_neg hslew, hmode, h1, h2, h3, quantized]

theorem quantizeChannel_voltage (hhit : cfg.hitSetpoint = .finite hit) (hhold : cfg.holdSetpoint = .finite hold)
    (hms : cfg.hitTimeMs = .finite ms) (hslew : ¬ slewIllegal ctx.clockBase cfg.chopSel cfg.slewRateControl = true)
    (hmode : cfg.driveMode = .voltage)
    (h1 : codeFromDuty p (.finite (capped board.maxDutyPct hit)) ctx.clockBase cfg.chopSel cfg.slewRateControl =
      .ok hitCode)
    (h2 : codeFromDuty p (.finite (capped board.maxDutyPct hold)) ctx.clockBase cfg.chopSel cfg.slewRateControl =
      .ok holdCode)
    (h3 : codeFromMs (.finite ms) (chopKhz ctx.clockBase cfg.chopSel) = .ok timeCode) :
    quantizeChannel p cfg ctx board = .ok (quantized cfg hitCode holdCode timeCode) := by
  simp only [quantizeChannel, hhit, hhold, hms, if_neg hslew, hmode, h1, h2, h3, quantized]

end

/-- The two operations deliver what the conversion answers (R161, R194). -/
theorem exec_quantize_ok {s : State} {cfg : ChannelConfig} {ctx : ConvContext} {board : BoardScale} {r : ChannelRaw}
    (h : quantizeChannel s.params cfg ctx board = .ok r) :
    exec (.quantizeChannel cfg ctx board) s = .next (s.withResult (.ok (.channelRaw r))) ∧
    exec (.encodeChannel cfg ctx board) s = .next (s.withResult (.ok (.word (packChannel r)))) := by
  have arm : exec (.quantizeChannel cfg ctx board) s = execQuantizeChannel cfg ctx board s := rfl
  have arm' : exec (.encodeChannel cfg ctx board) s = execEncodeChannel cfg ctx board s := rfl
  rw [arm, arm', execQuantizeChannel, execEncodeChannel, encodeChannel, h]
  exact ⟨rfl, rfl⟩

theorem slew_legal {base : ClockBase} {sel : Sel2} {src : Bool} (h : src = true → chopKhz base sel < 50) :
    ¬ slewIllegal base sel src = true := by
  simpa [slewIllegal] using h

/-- Settles O35, by the drive mode. -/
theorem quantizeCompletes : Obligations.QuantizeCompletes := by
  intro s cfg ctx board hit hold ms hhit hhold hms hfull hslew capI capD
  have legal := slew_legal hslew
  have hI (v : Rat) : capped board.maxCurrentMa v = capI v := capped_eq _ v
  have hD (v : Rat) : capped board.maxDutyPct v = capD v := capped_eq _ v
  obtain ⟨timeCode, htime⟩ := codeFromMs_ok ms (chopKhz ctx.clockBase cfg.chopSel)
  cases hmode : cfg.driveMode with
  | current =>
    have code (v : Rat) := codeFromMa_of_pos (hfull hmode) v
    refine ⟨_, _, timeCode, _, fun _ => ⟨code _, code _⟩, nofun, htime, rfl, exec_quantize_ok ?_⟩
    rw [quantizeChannel_current hhit hhold hms legal hmode (code _) (code _) htime, hI, hI, quantized, hmode]
  | voltage =>
    obtain ⟨hitCode, h1⟩ := codeFromDuty_legal (p := s.params) (capD hit) legal
    obtain ⟨holdCode, h2⟩ := codeFromDuty_legal (p := s.params) (capD hold) legal
    refine ⟨hitCode, holdCode, timeCode, _, nofun, fun _ => ⟨h1, h2⟩, htime, rfl, exec_quantize_ok ?_⟩
    rw [← hD] at h1 h2
    rw [quantizeChannel_voltage hhit hhold hms legal hmode h1 h2 htime, quantized, hmode]

/-- What the conversion rejects, for each cause (R188, R194, R197). -/
theorem quantizeChannel_rejects {p : Config.Params} {cfg : ChannelConfig} {ctx : ConvContext} {board : BoardScale}
    (h : cfg.hitSetpoint = .nonFinite ∨ cfg.holdSetpoint = .nonFinite ∨ cfg.hitTimeMs = .nonFinite ∨
      (cfg.slewRateControl = true ∧ 50 ≤ chopKhz ctx.clockBase cfg.chopSel) ∨
      (cfg.driveMode = .current ∧ ctx.fullScaleMa ≤ 0)) :
    quantizeChannel p cfg ctx board = .error .invalidParameter := by
  unfold quantizeChannel
  split
  · next hit hold ms hhit hhold hms =>
    simp only [hhit, hhold, hms, reduceCtorEq, false_or] at h
    dsimp only
    split
    · rfl
    · next hlegal =>
      obtain ⟨hsrc, hkhz⟩ | ⟨hmode, hfull⟩ := h
      · exact absurd (by simp [slewIllegal, hsrc, hkhz]) hlegal
      · simp only [hmode, codeFromMa_of_nonpos hfull]
  · rfl

/-- Settles O36: whichever cause it is, the conversion answers `InvalidParameter` and changes nothing. -/
theorem quantizeRejects : Obligations.QuantizeRejects := by
  intro s cfg ctx board h
  have arm : exec (.quantizeChannel cfg ctx board) s = execQuantizeChannel cfg ctx board s := rfl
  have arm' : exec (.encodeChannel cfg ctx board) s = execEncodeChannel cfg ctx board s := rfl
  rw [arm, arm', execQuantizeChannel, execEncodeChannel, encodeChannel, quantizeChannel_rejects h]
  exact ⟨rfl, rfl⟩

/-- Settles O39: on values of at least zero rounding is the floor of the value and a half. -/
theorem inverseConversionsComplete : Obligations.InverseConversionsComplete := by
  intro s f c t khz r ctx hf
  refine ⟨?_, ?_, rfl, ?_⟩
  · rw [← maFromCode_of_nonneg hf]
    rfl
  · rw [← roundQ_of_nonneg (by positivity)]
    rfl
  · have arm : exec (.dequantizeChannel r ctx) s =
        .next (s.withResult (.ok (.channelConfig (dequantizeChannel r ctx)))) := rfl
    rw [arm, dequantizeChannel]
    cases r.driveMode <;> rfl

/-- Settles O45: each code survives, the ceilings change nothing, and every flag is copied. -/
theorem reencodeIsIdentityInCurrentMode : Obligations.ReencodeIsIdentityInCurrentMode := by
  intro p r ctx board hmode hfull hslew hcap
  have hkhz : khzWellFormed (chopKhz ctx.clockBase r.chopSel) = true := by
    generalize r.chopSel = sel
    cases ctx.clockBase <;> revert sel <;> decide
  have hquantize : quantizeChannel p (dequantizeChannel r ctx) ctx board = .ok r := by
    rw [dequantizeChannel_of_current hmode]
    rw [quantizeChannel_current rfl rfl rfl (slew_legal hslew) rfl
      (by rw [capped_of_le fun m hm => (hcap m hm).1]; exact codeFromMa_maFromCode hfull r.hitCode)
      (by rw [capped_of_le fun m hm => (hcap m hm).2]; exact codeFromMa_maFromCode hfull r.holdCode)
      (timingRoundTrip r.hitTimeCode _ hkhz), quantized, ← hmode]
  exact ⟨hquantize, by rw [encodeChannel, decodeChannel, unpackChannel_packChannel, hquantize]⟩

end Sys2Proof.Machine

/-! The Device State Manager in `Active` and in `Uninitialized`: its checks, its reads and its writes (R224 to R241). -/

namespace Sys2Proof.Machine

variable {s t : State} {q a : Quad} {ch pair : Nat} {bank : Bank}

/-! ### Checks of the operands -/

theorem channelValid_of_le (h : ch ≤ 7) : channelValid ch = true := by simp [channelValid]; omega

theorem channelValid_of_lt (h : 7 < ch) : channelValid ch = false := by simp [channelValid]; omega

theorem pairValid_of_le (h : pair ≤ 3) : pairValid pair = true := by simp [pairValid]; omega

theorem pairValid_of_lt (h : 3 < pair) : pairValid pair = false := by simp [pairValid]; omega

theorem bankValid_channelBank (h : ch ≤ 7) : bankValid (channelBank ch) = true := by
  interval_cases ch <;> decide

theorem rawWritable_of_le (h : bank.toNat ≤ 10) (h9 : bank ≠ 9) : rawWritable bank = true := by
  rw [rawWritable, bankValid_iff.2 h, Bool.true_and]
  exact bne_iff_ne.2 h9

/-! ### What the operations are, by the state of the sequencer -/

/-- An operation of the manager that answers `k` without doing anything (R224, R276). -/
theorem deliver_raise {α : Type} (value : α → Value) (k : ErrorKind) (s : State) :
    deliver value (raise k s) = .next { s with result := some (.err k) } := rfl

/-- Settles O49: the index is checked before the sequencer. -/
theorem indexChecksComeFirst : Obligations.IndexChecksComeFirst := by
  intro s ch pair cfg on mode w bank
  refine ⟨fun hch i hi => ?_, fun hpair => ?_, fun h9 => ?_⟩
  · have invalid := channelValid_of_lt hch
    simp only [List.mem_cons, List.not_mem_nil, or_false] at hi
    obtain rfl | rfl | rfl := hi
    · show deliver _ (configureChannel ch cfg s) = _
      rw [configureChannel, invalid, whenIndex_false, deliver_raise]
    · show deliver _ (getChannelConfig ch s) = _
      rw [getChannelConfig, invalid, whenIndex_false, deliver_raise]
    · show deliver _ (setChannelEnabled ch on s) = _
      rw [setChannelEnabled, invalid, whenIndex_false, deliver_raise]
  · show deliver _ (setPairMode pair mode s) = _
    rw [setPairMode, pairValid_of_lt hpair, whenIndex_false, deliver_raise]
  · subst h9
    exact exec_rawWriteRegister_rejected rfl w

/-- Settles O50: with its index in range an operation meets the gate. -/
theorem gatedOperationsNeedActive : Obligations.GatedOperationsNeedActive := by
  intro s ch pair cfg on mode mask d w bank i hs hch hpair hbank h9 hi
  have gate {α : Type} (value : α → Value) (k : State → State × Except ErrorKind α) :
      deliver value (whenActive k s) = .next { s with result := some (.err s.params.errNotActive) } := by
    rw [whenActive_uninitialized hs, deliver_raise]
  have gateIndex {α : Type} {ok : Bool} (hok : ok = true) (value : α → Value) (k : State → State × Except ErrorKind α) :
      deliver value (whenIndex ok (whenActive k) s) = .next { s with result := some (.err s.params.errNotActive) } := by
    rw [hok, whenIndex_true, gate]
  simp only [List.mem_cons, List.not_mem_nil, or_false] at hi
  obtain rfl | rfl | rfl | rfl | rfl | rfl | rfl | rfl | rfl | rfl | rfl | rfl | rfl := hi
  · exact gateIndex (channelValid_of_le hch) _ _
  · exact gateIndex (channelValid_of_le hch) _ _
  · exact gate _ _
  · exact gateIndex (channelValid_of_le hch) _ _
  · exact gateIndex (pairValid_of_le hpair) _ _
  · exact gate _ _
  · exact gate _ _
  · exact gate _ _
  · exact gate _ _
  · exact gateIndex (rawWritable_of_le hbank h9) _ _
  · exact gateIndex (bankValid_iff.2 hbank) _ _
  · exact gateIndex rfl _ _
  · exact gate _ _

theorem validateChannel_ok_iff {cfg : ChannelConfig} {board : BoardScale} : validateChannel cfg board = .ok () ↔
    cfg.hitSetpoint ≠ .nonFinite ∧ cfg.holdSetpoint ≠ .nonFinite ∧ cfg.hitTimeMs ≠ .nonFinite ∧
      (cfg.driveMode = .current → cfg.sideMode = .lowSide ∧ board.fullScaleMa ≠ 0) ∧
      (cfg.sideMode = .highSide →
        cfg.halfScale = false ∧ cfg.slewRateControl = false ∧ cfg.plungerDetectEn = false) := by
  have finite (v : EngValue) : isNonFinite v = true ↔ v = .nonFinite := by cases v <;> simp [isNonFinite]
  have side : cfg.sideMode = .lowSide ↔ cfg.sideMode ≠ .highSide := by cases cfg.sideMode <;> simp
  unfold validateChannel
  simp only [finite, side, Bool.eq_false_iff]
  split_ifs with h1 h2 h3 h4
  · exact iff_of_false nofun (by tauto)
  · exact iff_of_false nofun (by tauto)
  · exact iff_of_false nofun (by tauto)
  · exact iff_of_false nofun (by tauto)
  · exact iff_of_true rfl (by tauto)

/-- Settles O51, by the branches of the check. -/
theorem validateChannelCompletes : Obligations.ValidateChannelCompletes := by
  have arm (cfg : ChannelConfig) (board : BoardScale) (s : State) : exec (.validateChannel cfg board) s =
      .next (s.withResult (resultOf (fun _ => .unit) (validateChannel cfg board))) := rfl
  intro s cfg board passes
  refine ⟨fun h => ?_, fun h => ?_⟩
  · rw [arm, validateChannel_ok_iff.2 h]
    rfl
  · cases hv : validateChannel cfg board with
    | ok _ => exact absurd (validateChannel_ok_iff.1 hv) h
    | error k =>
      rw [arm, hv, onlyInvalid_validateChannel cfg board k hv]
      rfl

/-! ### Operations in `Active` -/

/-- What `configureChannel` does once its cache is there (R225): the conversion and the write. -/
def configureAfter (ch : Nat) (cfg : ChannelConfig) (s : State) : State × Except ErrorKind Unit :=
  match encodeChannel s.params cfg (contextOf s) s.board with
  | .error _ => raise .invalidParameter s
  | .ok w => writeReg32 (channelBank ch) w s

/-- What `setPairMode` does once its cache is there (R231): refused while a channel of the pair is on. -/
def pairModeAfter (pair : Nat) (mode : PairMode) (s : State) : State × Except ErrorKind Unit :=
  if pairOn pair s.cache then raise .invalidParameter s
  else
    andThen (writeReg32 0 (packStatus (statusWithPair pair mode s.cache)) s) fun _ u =>
      done () (u.withCache (statusWithPair pair mode s.cache))

theorem configureChannel_invalid (hch : ch ≤ 7) (hs : s.dsmState = .active) {cfg : ChannelConfig} {k : ErrorKind}
    (hv : validateChannel cfg s.board = .error k) : configureChannel ch cfg s = raise .invalidParameter s := by
  simp only [configureChannel, channelValid_of_le hch, whenIndex_true, whenActive_active hs, hv]

theorem configureChannel_active (hch : ch ≤ 7) (hs : s.dsmState = .active) {cfg : ChannelConfig}
    (hv : validateChannel cfg s.board = .ok ()) :
    configureChannel ch cfg s = andThen (ensureCache s) fun _ => configureAfter ch cfg := by
  simp only [configureChannel, channelValid_of_le hch, whenIndex_true, whenActive_active hs, hv] <;> rfl

theorem getChannelConfig_active (hch : ch ≤ 7) (hs : s.dsmState = .active) : getChannelConfig ch s =
    andThen (ensureCache s) fun _ u =>
      andThen (readReg32 (channelBank ch) u) fun w v => done (decodeChannel w (contextOf v)) v := by
  rw [getChannelConfig, channelValid_of_le hch, whenIndex_true, whenActive_active hs]

theorem setChannelsOn_active (hs : s.dsmState = .active) (mask : Byte) :
    setChannelsOn mask s = andThen (writeReg8 0 mask s) fun _ u => done () (noteChannelsOn mask u) := by
  rw [setChannelsOn, whenActive_active hs]

theorem setChannelEnabled_active (hch : ch ≤ 7) (hs : s.dsmState = .active) (on : Bool) : setChannelEnabled ch on s =
    andThen (ensureCache s) fun _ u => setChannelsOn (switchChannel u.cache.channelsOn ch on) u := by
  rw [setChannelEnabled, channelValid_of_le hch, whenIndex_true, whenActive_active hs]

theorem setPairMode_reserved (hpair : pair ≤ 3) (hs : s.dsmState = .active) :
    setPairMode pair .reserved3 s = raise .invalidParameter s := by
  rw [setPairMode, pairValid_of_le hpair, whenIndex_true, whenActive_active hs, if_pos rfl]

theorem setPairMode_active (hpair : pair ≤ 3) (hs : s.dsmState = .active) {mode : PairMode} (hm : mode ≠ .reserved3) :
    setPairMode pair mode s = andThen (ensureCache s) fun _ => pairModeAfter pair mode := by
  rw [setPairMode, pairValid_of_le hpair, whenIndex_true, whenActive_active hs, if_neg hm] <;> rfl

/-- A raw write is a write issued by the host, once it is let through (R235). -/
theorem exec_rawWriteRegister (hs : s.dsmState = .active) (h : bank.toNat ≤ 10) (h9 : bank ≠ 9) (w : Word) :
    exec (.rawWriteRegister bank w) s = exec (.wr32 bank w) s := by
  have arm : exec (.rawWriteRegister bank w) s = deliver (fun _ => .unit) (rawWriteRegister bank w s) := rfl
  rw [arm, rawWriteRegister, rawWritable_of_le h h9, whenIndex_true, whenActive_active hs]
  rfl

theorem exec_rawReadRegister (hs : s.dsmState = .active) (h : bank.toNat ≤ 10) :
    exec (.rawReadRegister bank) s = exec (.rd32 bank) s := by
  have arm : exec (.rawReadRegister bank) s = deliver .word (rawReadRegister bank s) := rfl
  rw [arm, rawReadRegister, bankValid_iff.2 h, whenIndex_true, whenActive_active hs]
  rfl

/-- Writing the plunger-detection record is a full write of bank 10 (R240). -/
theorem exec_setDpmConfig (hs : s.dsmState = .active) (d : DpmConfig) :
    exec (.setDpmConfig d) s = exec (.wr32 10 (packDpm d)) s := by
  have arm : exec (.setDpmConfig d) s = deliver (fun _ => .unit) (setDpmConfig d s) := rfl
  rw [arm, setDpmConfig, whenActive_active hs]
  rfl

/-- Settles O56: each of the two writes is a full write of the host. -/
theorem managerWritesComplete : Obligations.ManagerWritesComplete := by
  intro s hs
  refine ⟨fun q a d w bank hq ha => ⟨?_, fun hb h9 => ?_⟩, fun w => ?_⟩
  · rw [exec_setDpmConfig hs, (runs_wr32 10 _).answered (by decide) hq ha]
    simp [afterTransaction]
  · rw [exec_rawWriteRegister hs hb h9, (runs_wr32 bank w).answered hb hq ha]
    rfl
  · rw [exec_rawWriteRegister hs (by decide) (by decide)]
    obtain ⟨q, d, hq, hd⟩ | ⟨u, hf⟩ := answered_or_fails 0 true false (quadBytes (data32wBytes w)) s
    · exact ⟨_, (runs_wr32 0 w).answered (by decide) hq hd, by simp⟩
    · exact ⟨_, (runs_wr32 0 w).fails (by decide) hf, by simp⟩

/-- A received word of four bytes has them as its bytes, the first one on top (R88). -/
theorem unpackFault_data32rWord (d : Quad) : unpackFault (data32rWord d) = ⟨d.b0, d.b1, d.b2, d.b3⟩ := by
  have packed : data32rWord d = packFault ⟨d.b0, d.b1, d.b2, d.b3⟩ := by simp [data32rWord, packFault, fieldAt]
  rw [packed, unpackFault_packFault]

/-- Settles O55: each is one full read that was answered. -/
theorem managerReadsComplete : Obligations.ManagerReadsComplete := by
  intro s q a hs hq ha
  refine ⟨?_, ?_, ?_, fun bank hb => ?_⟩
  · show deliver _ (readStatus s) = _
    rw [readStatus, whenActive_active hs, readReg32_ok rfl hq ha]
    rfl
  · show deliver _ (readFaults s) = _
    rw [readFaults, whenActive_active hs, readReg32_ok rfl hq ha, andThen_ok, unpackFault_data32rWord]
    rfl
  · show deliver _ (getDpmConfig s) = _
    rw [getDpmConfig, whenActive_active hs, readReg32_ok rfl hq ha]
    rfl
  · rw [exec_rawReadRegister hs hb, (runs_rd32 bank).answered hb hq ha]
    simp [afterTransaction]

/-- Settles O52, by the pre-flight check and the conversion. -/
theorem channelConfigurationCompletes : Obligations.ChannelConfigurationCompletes := by
  have arm (ch : Nat) (cfg : ChannelConfig) (s : State) :
      exec (.configureChannel ch cfg) s = deliver (fun _ => .unit) (configureChannel ch cfg s) := rfl
  have armGet (ch : Nat) (s : State) :
      exec (.getChannelConfig ch) s = deliver .channelConfig (getChannelConfig ch s) := rfl
  intro s ch cfg hch hs
  refine ⟨fun k hv => ?_, fun w q a hvalid hv hw hq ha => ?_, fun k hvalid hk => ?_, fun q a hvalid hq ha => ?_⟩
  · rw [arm, configureChannel_invalid hch hs hv, deliver_raise]
  · have hw' : configureAfter ch cfg s = writeReg32 (channelBank ch) w s := by
      simp only [configureAfter, contextOf, hw]
    rw [arm, configureChannel_active hch hs hv, ensureCache_valid hvalid, andThen_ok, hw',
      writeReg32_ok (bankValid_channelBank hch) hq ha]
    rfl
  · cases hv : validateChannel cfg s.board with
    | error e => rw [arm, configureChannel_invalid hch hs hv, deliver_raise]
    | ok _ =>
      have hk' : configureAfter ch cfg s = raise .invalidParameter s := by
        simp only [configureAfter, contextOf, hk]
      rw [arm, configureChannel_active hch hs hv, ensureCache_valid hvalid, andThen_ok, hk', deliver_raise]
  · rw [armGet, getChannelConfig_active hch hs, ensureCache_valid hvalid, andThen_ok,
      readReg32_ok (bankValid_channelBank hch) hq ha]
    rfl

/-- The mask that switching a channel writes (R230). -/
theorem getLsbD_switchChannel (mask : Byte) (on : Bool) {k : Nat} (hk : k < 8) :
    (switchChannel mask ch on).getLsbD k = if k = ch then on else mask.getLsbD k := by
  have bit : (1#8 <<< ch).getLsbD k = decide (k = ch) := by
    by_cases h : k < ch
    · simp [h, h.ne]
    · have h0 : k - ch = 0 ↔ k = ch := by omega
      simp [hk, h, h0]
  cases on with
  | true =>
    rw [switchChannel, if_pos rfl, BitVec.getLsbD_or, bit]
    by_cases h : k = ch <;> simp [h]
  | false =>
    have hnot : (~~~(1#8 <<< ch)).getLsbD k = !decide (k = ch) := by
      rw [BitVec.getLsbD_not, bit, decide_eq_true hk, Bool.true_and]
    rw [switchChannel, if_neg Bool.false_ne_true, BitVec.getLsbD_and, hnot]
    by_cases h : k = ch <;> simp [h]

/-- The narrow write of the mask, and the cached mask that follows it where the cache is valid (R229). -/
theorem setChannelsOn_ok (hs : s.dsmState = .active) (hq : statusOkAt s 0 q) (ha : answerAt s.env 1 = some a)
    (mask : Byte) : setChannelsOn mask s =
      ({ afterTransaction 0 true true q [mask] (some a) s with
        cache := if s.cacheValid then { s.cache with channelsOn := mask } else s.cache }, .ok ()) := by
  rw [setChannelsOn_active hs, writeReg8_answered rfl hq, ha, andThen_ok, noteChannelsOn]
  cases hv : s.cacheValid <;> simp [afterTransaction, hv, done, State.withCache]

/-- Settles O53: the bits of the switched mask, and the narrow write of it. -/
theorem channelSwitchingCompletes : Obligations.ChannelSwitchingCompletes := by
  intro s q a hs hq ha
  refine ⟨fun mask => ?_, fun ch on hch hvalid =>
    ⟨switchChannel s.cache.channelsOn ch on, fun k hk => getLsbD_switchChannel _ on hk, ?_⟩⟩
  · show deliver _ (setChannelsOn mask s) = _
    rw [setChannelsOn_ok hs hq ha]
    rfl
  · show deliver _ (setChannelEnabled ch on s) = _
    rw [setChannelEnabled_active hch hs, ensureCache_valid hvalid, andThen_ok, setChannelsOn_ok hs hq ha, if_pos hvalid]
    rfl

theorem pairModeAt_pairModeSet_same (m : PairModes) (v : PairMode) : ∀ k, pairModeAt (pairModeSet m k v) k = v
  | 0 | 1 | 2 | _ + 3 => rfl

theorem pairModeAt_pairModeSet_of_ne (m : PairModes) (v : PairMode) {j k : Nat} (hj : j ≤ 3) (hk : k ≤ 3) (h : j ≠ k) :
    pairModeAt (pairModeSet m k v) j = pairModeAt m j := by
  interval_cases k <;> interval_cases j <;> trivial

/-- The four modes determine the record. -/
theorem pairModes_ext {m m' : PairModes} (h : ∀ k, k ≤ 3 → pairModeAt m k = pairModeAt m' k) : m = m' := by
  have h0 := h 0 (by decide)
  have h1 := h 1 (by decide)
  have h2 := h 2 (by decide)
  have h3 := h 3 (by decide)
  obtain ⟨p0, p1, p2, p3⟩ := m
  obtain ⟨p0', p1', p2', p3'⟩ := m'
  exact PairModes.mk.injEq .. ▸ ⟨h0, h1, h2, h3⟩

/-- The status word that `setPairMode` writes is the only one that differs from the cache in that mode alone (R231). -/
theorem eq_statusWithPair {mode : PairMode} {x y : StatusWord} (hpair : pair ≤ 3)
    (hx : pairModeAt x.pairMode pair = mode)
    (hother : ∀ k, k ≤ 3 → k ≠ pair → pairModeAt x.pairMode k = pairModeAt y.pairMode k)
    (hy : { x with pairMode := y.pairMode } = y) : x = statusWithPair pair mode y := by
  have modes : x.pairMode = pairModeSet y.pairMode pair mode := by
    refine pairModes_ext fun k hk => ?_
    by_cases h : k = pair
    · rw [h, hx, pairModeAt_pairModeSet_same]
    · rw [hother k hk h, pairModeAt_pairModeSet_of_ne _ _ hk hpair h]
  rw [statusWithPair, ← modes, ← hy]

/-- Settles O54, by the mode and by whether a channel of the pair is on. -/
theorem pairModeCompletes : Obligations.PairModeCompletes := by
  have arm (pair : Nat) (mode : PairMode) (s : State) :
      exec (.setPairMode pair mode) s = deliver (fun _ => .unit) (setPairMode pair mode s) := rfl
  intro s pair mode hpair hs
  refine ⟨?_, fun hvalid hon => ?_, fun q a hvalid hm hoff hoff' hq ha =>
    ⟨statusWithPair pair mode s.cache, ?_, ?_, ?_, ?_⟩⟩
  · rintro rfl
    rw [arm, setPairMode_reserved hpair hs, deliver_raise]
  · by_cases hm : mode = .reserved3
    · rw [arm, hm, setPairMode_reserved hpair hs, deliver_raise]
    · have refused : pairModeAfter pair mode s = raise .invalidParameter s := if_pos (by simpa [pairOn] using hon)
      rw [arm, setPairMode_active hpair hs hm, ensureCache_valid hvalid, andThen_ok, refused, deliver_raise]
  · exact pairModeAt_pairModeSet_same _ _ pair
  · exact fun k hk h => pairModeAt_pairModeSet_of_ne _ _ hk hpair h
  · rfl
  · have hpairOn : ¬ pairOn pair s.cache = true := by simp [pairOn, hoff, hoff']
    rw [arm, setPairMode_active hpair hs hm, ensureCache_valid hvalid, andThen_ok, pairModeAfter, if_neg hpairOn,
      writeReg32_ok rfl hq ha]
    rfl

theorem ceilingOf_map (o : Option Rat) (h : ∀ x ∈ o, 0 ≤ x) : ceilingOf (o.map .finite) = some o := by
  cases o with
  | none => rfl
  | some x => simp [ceilingOf, nonNegative, h x rfl]

/-- A value that R234 rejects. -/
theorem nonNegative_eq_none {v : EngValue} (h : v = .nonFinite ∨ ∃ x : Rat, x < 0 ∧ v = .finite x) :
    nonNegative v = none := by
  obtain rfl | ⟨x, hx, rfl⟩ := h
  · rfl
  · exact if_neg (not_le.2 hx)

theorem boardOf_eq_none {b : BoardRequest} {v : EngValue} (hv : nonNegative v = none)
    (h : v = b.fullScaleMa ∨ b.maxCurrentMa = some v ∨ b.maxDutyPct = some v) : boardOf b = none := by
  have ceiling : ceilingOf (some v) = none := by rw [ceilingOf, hv]; rfl
  unfold boardOf
  split
  · next hf hi hd =>
    obtain rfl | h | h := h
    · cases hv.symm.trans hf
    · rw [h, ceiling] at hi
      cases hi
    · rw [h, ceiling] at hd
      cases hd
  · rfl

/-- Settles O57: the board scale is taken exactly when each of its values can be. -/
theorem boardAndFaultLineComplete : Obligations.BoardAndFaultLineComplete := by
  have arm (b : BoardRequest) (s : State) :
      exec (.setBoardScale b) s = deliver (fun _ => .unit) (setBoardScale b s) := rfl
  intro s
  refine ⟨fun f i d hf hi hd => ?_, fun b v hv hbad => ?_, rfl⟩
  · have taken : boardOf ⟨.finite f, i.map .finite, d.map .finite⟩ = some ⟨f, i, d⟩ := by
      simp only [boardOf, nonNegative, if_pos hf, ceilingOf_map i hi, ceilingOf_map d hd]
    rw [arm, setBoardScale, taken]
    rfl
  · rw [arm, setBoardScale, boardOf_eq_none (nonNegative_eq_none hbad) hv]
    rfl

end Sys2Proof.Machine

/-! `initializeDevice` and `deinitialize` (R221 to R223). -/

namespace Sys2Proof.Machine

variable {s t : State}

/-! ### The status words that are written -/

/-- The word an attempt writes: byte 3 zero and bit 0 set, the other bits as read (R221). -/
theorem initWord_eq (w : Word) : initWord w = (w &&& 0x00FFFFFE#32) ||| 1#32 := by
  apply BitVec.eq_of_getLsbD_eq
  intro i hi
  simp only [initWord, packStatus, unpackStatus, clockBaseBits_clockBaseOf, pairModeBits_pairModeOf, BitVec.getLsbD_or,
    BitVec.getLsbD_and, getLsbD_fieldAt, BitVec.getLsbD_extractLsb']
  interval_cases i <;> simp

/-- The word `deinitialize` writes: byte 3 zero and bit 0 clear (R223). -/
theorem packStatus_off (x : StatusWord) :
    packStatus { x with channelsOn := 0, globalEnable := false } = packStatus x &&& 0x00FFFFFE#32 := by
  obtain ⟨w, rfl⟩ : ∃ w, x = unpackStatus w := ⟨packStatus x, (unpackStatus_packStatus x).symm⟩
  apply BitVec.eq_of_getLsbD_eq
  intro i hi
  rw [packStatus_unpackStatus]
  simp only [packStatus, unpackStatus, clockBaseBits_clockBaseOf, pairModeBits_pairModeOf, BitVec.getLsbD_or,
    BitVec.getLsbD_and, getLsbD_fieldAt, BitVec.getLsbD_extractLsb']
  interval_cases i <;> simp

/-! ### `initializeDevice` -/

/-- The state in which the first attempt begins: enable asserted, and one delay (R221). -/
def poweredUp (s : State) : State := { s with
  enable := .asserted
  trace := s.trace ++ [.setLine .enable .asserted, .delay 500] }

theorem initialise_eq (s : State) : initialise s = initLoop 3 (poweredUp s) := by
  have h : delay Config.powerUpDelayUs (setLine .enable .asserted s) = poweredUp s := by
    ext1 <;> simp [poweredUp]
  rw [initialise, h]

theorem exec_initializeDevice_of_ok (h : initLoop 3 (poweredUp s) = (t, .ok ())) :
    exec .initializeDevice s = .next { t with result := some (.ok .unit) } := by
  rw [exec_initializeDevice, initialise_eq, h]
  rfl

theorem exec_initializeDevice_of_error {k : ErrorKind} (h : initLoop 3 (poweredUp s) = (t, .error k)) :
    exec .initializeDevice s = .next { t with result := some (.err k) } := by
  rw [exec_initializeDevice, initialise_eq, h]
  rfl

section
variable {bank : Bank} {wr n : Bool} {q : Quad} {tx : List Byte} {a : Option Quad}

@[simp] theorem answerAt_afterTransaction (k : Nat) :
    answerAt (afterTransaction bank wr n q tx a s).env k = answerAt s.env (2 + k) := answerAt_afterXfers s.env 2 k

@[simp] theorem statusOkAt_afterTransaction (k : Nat) (q' : Quad) :
    statusOkAt (afterTransaction bank wr n q tx a s) k q' ↔ statusOkAt s (2 + k) q' := by
  rw [statusOkAt, statusOkAt, answerAt_afterTransaction]
  rfl

end

/-- An attempt whose six answers are known completes (R221). -/
theorem attemptCompletes_of_answers {q1 d1 q2 a2 q3 d3 : Quad} (hq1 : statusOkAt s 0 q1)
    (hd1 : answerAt s.env 1 = some d1) (hq2 : statusOkAt s 2 q2) (ha2 : answerAt s.env 3 = some a2)
    (hq3 : statusOkAt s 4 q3) (hd3 : answerAt s.env 5 = some d3) :
    attemptCompletes s (data32rWord d3) (afterTransaction 0 false false q3 (fill32 s.params) (some d3)
      (afterTransaction 0 true false q2 (quadBytes (data32wBytes (initWord (data32rWord d1)))) (some a2)
        (afterTransaction 0 false false q1 (fill32 s.params) (some d1) s))) :=
  ⟨q1, d1, _, q2, a2, _, q3, d3, hq1, hd1, rfl, by simpa using hq2, by simpa using ha2, rfl, by simpa using hq3,
    by simpa using hd3, rfl, rfl⟩

/-- Settles O46: the first attempt completes, so the loop ends with it. -/
theorem initializeCompletes : Obligations.InitializeCompletes := by
  refine ⟨fun s q1 d1 q2 a2 q3 d3 hq1 hd1 hq2 ha2 hq3 hd3 => ?_, initWord_eq⟩
  have completes := attemptCompletes_of_answers (s := poweredUp s) hq1 hd1 hq2 ha2 hq3 hd3
  rw [exec_initializeDevice_of_ok (initLoop_completes completes)]
  simp [afterTransaction, poweredUp, loadCache, State.withDsm, State.withCache, State.withCacheValid, fill32, quadBytes]

/-! ### The retries of `initializeDevice` (R221, R222) -/

theorem failedTransfer_env {bank : Bank} {wr n : Bool} {tx : List Byte} (h : failedTransfer bank wr n tx s t) :
    ∃ j, 1 ≤ j ∧ j ≤ 2 ∧ t.env = afterXfers s.env j := by
  obtain ⟨-, h | h⟩ := failedTransfer_ends h
  · exact ⟨1, le_refl 1, by decide, h⟩
  · exact ⟨2, by decide, le_refl 2, h⟩

/-- A failed attempt makes one to six exchanges. -/
theorem attemptFails_env (h : attemptFails s t) : ∃ j, 1 ≤ j ∧ j ≤ 6 ∧ t.env = afterXfers s.env j := by
  obtain hf | ⟨q, d, s1, -, -, rfl, hf | ⟨q', a, s2, -, -, rfl, hf⟩⟩ := h
  all_goals obtain ⟨j, h1, h2, he⟩ := failedTransfer_env hf
  · exact ⟨j, h1, by omega, he⟩
  · exact ⟨2 + j, by omega, by omega, he.trans (afterXfers_afterXfers s.env 2 j)⟩
  · refine ⟨4 + j, by omega, by omega, he.trans ?_⟩
    exact (congrArg (afterXfers · j) (afterXfers_afterXfers s.env 2 2)).trans (afterXfers_afterXfers s.env 4 j)

/-- A completed attempt makes six. -/
theorem attemptCompletes_env {w : Word} (h : attemptCompletes s w t) : t.env = afterXfers s.env 6 := by
  obtain ⟨q, d, s1, q', a, s2, q'', d', -, -, rfl, -, -, rfl, -, -, rfl, -⟩ := h
  exact (congrArg (afterXfers · 2) (afterXfers_afterXfers s.env 2 2)).trans (afterXfers_afterXfers s.env 4 2)

/-- Of `n` attempts: each failed one makes one to six exchanges, the completed one six (R222). -/
theorem initLoop_exchanges (n : Nat) : ∀ s : State, ∃ j, (initLoop n s).1.env = afterXfers s.env j ∧ j ≤ 6 * n ∧
    ((initLoop n s).2 = .ok () → 6 ≤ j) ∧ ((initLoop n s).2 ≠ .ok () → n ≤ j) := by
  induction n with
  | zero => exact fun s => ⟨0, rfl, le_refl 0, nofun, fun _ => le_refl 0⟩
  | succ n ih =>
    intro s
    obtain ⟨t, hf⟩ | ⟨w, t, hc⟩ := attempt_cases s
    · obtain ⟨j, h1, h2, he⟩ := attemptFails_env hf
      obtain ⟨k, hk, hle, hok, herr⟩ := ih t
      rw [initLoop_fails hf]
      refine ⟨j + k, by rw [hk, he, afterXfers_afterXfers], by omega, fun h => ?_, fun h => ?_⟩
      · have := hok h
        omega
      · have := herr h
        omega
    · have he := attemptCompletes_env hc
      rw [initLoop_completes hc]
      exact ⟨6, he, by omega, fun _ => le_refl 6, fun h => absurd rfl h⟩

/-- The state after an attempt whose first command was answered with the error status byte (R130). -/
def afterErrorStatus (q : Quad) (s : State) : State := { afterCommand 0 false false q s with pending := none }

theorem attemptFails_of_errorStatus {q : Quad} (ha : answerAt s.env 0 = some q) (hq : q.b0 = s.params.commErrCode) :
    attemptFails s (afterErrorStatus q s) :=
  .inl (.inr (.inl ⟨q, ha, hq, rfl⟩))

@[simp] theorem answerAt_afterErrorStatus (q : Quad) (s : State) (k : Nat) :
    answerAt (afterErrorStatus q s).env k = answerAt s.env (1 + k) := answerAt_afterXfers s.env 1 k

@[simp] theorem statusOkAt_afterErrorStatus (q q' : Quad) (s : State) (k : Nat) :
    statusOkAt (afterErrorStatus q s) k q' ↔ statusOkAt s (1 + k) q' := by
  rw [statusOkAt, statusOkAt, answerAt_afterErrorStatus]
  rfl

theorem afterErrorStatus_env (q : Quad) (s : State) : (afterErrorStatus q s).env = afterXfers s.env 1 := rfl

/-- Settles O47: a failed attempt leaves the loop with one attempt less, a completed one ends it; the counts add up. -/
theorem initializeRetryLaw : Obligations.InitializeRetryLaw := by
  intro s s0 endsActive
  have active {w : Word} {t u : State} (hc : attemptCompletes t w u) {k : Nat}
      (h : initLoop 3 s0 = initLoop (k + 1) t) : endsActive w u :=
    exec_initializeDevice_of_ok (h.trans (initLoop_completes hc))
  refine ⟨fun w t hc => active hc rfl, fun t1 w t h1 hc => active hc (initLoop_fails h1),
    fun t1 t2 w t h1 h2 hc => active hc ((initLoop_fails h1).trans (initLoop_fails h2)),
    fun t1 t2 t3 h1 h2 h3 => ?_, ?_, ?_, ?_⟩
  · exact exec_initializeDevice_of_error
      ((initLoop_fails h1).trans ((initLoop_fails h2).trans (initLoop_fails h3)))
  · intro q0 q1 q2 d2 q4 a5 q6 d7 ha0 hq0 ha1 hq1 hq2 hd2 hq4 ha5 hq6 hd7
    have h1 : attemptFails s0 (afterErrorStatus q0 s0) := attemptFails_of_errorStatus ha0 hq0
    have h2 : attemptFails (afterErrorStatus q0 s0) (afterErrorStatus q1 (afterErrorStatus q0 s0)) :=
      attemptFails_of_errorStatus (by simpa using ha1) hq1
    have ok {k : Nat} {q : Quad} (h : statusOkAt s k q) : statusOkAt s0 k q := h
    have hc := attemptCompletes_of_answers (s := afterErrorStatus q1 (afterErrorStatus q0 s0)) (q1 := q2) (d1 := d2)
      (q2 := q4) (a2 := a5) (q3 := q6) (d3 := d7) (by simpa using ok hq2) (by simpa using hd2) (by simpa using ok hq4)
      (by simpa using ha5) (by simpa using ok hq6) (by simpa using hd7)
    have env := attemptCompletes_env hc
    simp only [afterErrorStatus_env, afterXfers_afterXfers] at env
    exact ⟨_, active hc ((initLoop_fails h1).trans (initLoop_fails h2)), rfl, rfl, env, rfl, rfl⟩
  · intro q0 q1 q2 ha0 hq0 ha1 hq1 ha2 hq2
    have h1 : attemptFails s0 (afterErrorStatus q0 s0) := attemptFails_of_errorStatus ha0 hq0
    have h2 : attemptFails (afterErrorStatus q0 s0) (afterErrorStatus q1 (afterErrorStatus q0 s0)) :=
      attemptFails_of_errorStatus (by simpa using ha1) hq1
    have h3 := attemptFails_of_errorStatus (s := afterErrorStatus q1 (afterErrorStatus q0 s0)) (by simpa using ha2) hq2
    refine ⟨_, exec_initializeDevice_of_error
      ((initLoop_fails h1).trans ((initLoop_fails h2).trans (initLoop_fails h3))), rfl, rfl, rfl, rfl, ?_⟩
    show (afterErrorStatus q2 (afterErrorStatus q1 (afterErrorStatus q0 s0))).env = afterXfers s.env 3
    simp only [afterErrorStatus_env, afterXfers_afterXfers]
    rfl
  · obtain ⟨j, hj, hle, hok, herr⟩ := initLoop_exchanges 3 (poweredUp s)
    cases h : initLoop 3 (poweredUp s) with
    | mk t r =>
      rw [h] at hj hok herr
      cases r with
      | ok _ => exact ⟨_, j, exec_initializeDevice_of_ok h, hj, hle, fun _ => hok rfl, fun hr => absurd rfl hr⟩
      | error k => exact ⟨_, j, exec_initializeDevice_of_error h, hj, hle, nofun, fun _ => herr nofun⟩

/-! ### `deinitialize` -/

/-- What `deinitialize` does last, whatever was answered (R223). -/
def shutDownEnds (p : State × Except ErrorKind Unit) : StepResult :=
  .next { p.1 with
    enable := .deasserted
    dsmState := .uninitialized
    cacheValid := false
    trace := p.1.trace ++ [.setLine .enable .deasserted]
    result := some (resultOf (fun _ => .unit) p.2) }

theorem exec_deinitialize_active (hs : s.dsmState = .active) : exec .deinitialize s = shutDownEnds (shutDown s) := by
  rw [exec_deinitialize, deinitialise, hs]
  rfl

/-- The status write of `deinitialize` once its cache is there. -/
def shutDownAfter (s : State) : State × Except ErrorKind Unit :=
  writeReg32 0 (packStatus s.cache &&& 0x00FFFFFE#32) s

theorem shutDown_eq (s : State) : shutDown s = andThen (ensureCache s) fun _ => shutDownAfter := by
  simp only [shutDown, packStatus_off] <;> rfl

/-- On a register that exists a transaction fails with `CommunicationError` alone (R271, R272). -/
theorem transact_error {α : Type} {bank : Bank} {wr n : Bool} {phase : State → State × Option α} {k : ErrorKind}
    (hb : bankValid bank = true) (h : (transact bank wr n phase s).2 = .error k) : k = .communicationError := by
  obtain ⟨hb', -⟩ | ⟨-, -, e⟩ | ⟨q, -, -, -, e⟩ | ⟨q, -, -, e⟩ := transact_cases bank wr n phase s
  · cases hb.symm.trans hb'
  · rw [e] at h
    cases h
    rfl
  · rw [e] at h
    cases h
    rfl
  · rw [e] at h
    cases hd : (phase (afterCommand bank wr n q s)).2 with
    | none =>
      rw [hd] at h
      cases h
      rfl
    | some a =>
      rw [hd] at h
      cases h

theorem andThen_error_cases {α β : Type} {p : State × Except ErrorKind α} {f : α → State → State × Except ErrorKind β}
    {k : ErrorKind} (h : (andThen p f).2 = .error k) : p.2 = .error k ∨ ∃ a, (f a p.1).2 = .error k := by
  obtain ⟨u, r⟩ := p
  cases r with
  | error e =>
    cases h
    exact .inl rfl
  | ok a => exact .inr ⟨a, h⟩

theorem ensureCache_error {k : ErrorKind} (h : (ensureCache s).2 = .error k) : k = .communicationError := by
  unfold ensureCache at h
  split at h
  · cases h
  · obtain h | ⟨_, h⟩ := andThen_error_cases h
    · exact transact_error rfl h
    · cases h

theorem shutDown_error {k : ErrorKind} (h : (shutDown s).2 = .error k) : k = .communicationError := by
  rw [shutDown_eq] at h
  obtain h | ⟨_, h⟩ := andThen_error_cases h
  · exact ensureCache_error h
  · exact transact_error rfl h

theorem shutDown_moves (hs : s.dsmState = .active) : Moves [.wire, .cache] s (shutDown s).1 := by
  have write (u : State) : Ended [.wire, .cache] u (shutDownAfter u) :=
    (ended_writeReg32 0 (packStatus u.cache &&& 0x00FFFFFE#32) u).mono (by simp)
  rw [shutDown_eq]
  exact ((ended_ensureCache hs).andThen fun _ => write _).moves

/-- Settles O48: whatever the status write answers, the line, the sequencer and the cache are written last. -/
theorem deinitializeCompletes : Obligations.DeinitializeCompletes := by
  intro s
  have uninit (hs : s.dsmState = .uninitialized) : exec .deinitialize s = shutDownEnds (s, .ok ()) := by
    rw [exec_deinitialize, deinitialise, hs]
    rfl
  have valid (hs : s.dsmState = .active) (hv : s.cacheValid = true) :
      exec .deinitialize s = shutDownEnds (shutDownAfter s) := by
    rw [exec_deinitialize_active hs, shutDown_eq, ensureCache_valid hv, andThen_ok]
  refine ⟨fun hs => ?_, fun q a hs hv hq ha => ?_, fun t hs hv hf => ?_, ?_⟩
  · rw [uninit hs]
    simp [shutDownEnds, resultOf, hs]
  · rw [valid hs hv, shutDownAfter, writeReg32_ok rfl hq ha]
    simp [shutDownEnds, afterTransaction, resultOf, quadBytes]
  · rw [valid hs hv, shutDownAfter, writeReg32_fails rfl hf]
    rfl
  · cases hs : s.dsmState with
    | uninitialized => exact ⟨_, [], uninit hs, rfl, rfl, .inl rfl, rfl, by simp⟩
    | active =>
      obtain ⟨es, hes⟩ := (shutDown_moves hs).trace
      refine ⟨_, es, exec_deinitialize_active hs, rfl, rfl, ?_, rfl, by simp [hes]⟩
      cases hr : (shutDown s).2 with
      | ok _ => exact .inl (by simp [resultOf])
      | error k =>
        obtain rfl := shutDown_error hr
        exact .inr (by simp [resultOf])

end Sys2Proof.Machine

/-! The forced re-read (R238, R307): what an operation that depends on the cache does first. -/

namespace Sys2Proof.Machine

variable {α β : Type} {s t : State} {q d : Quad} {i : Instr}

/-! ### The forced re-read -/

/-- Run in `Active` with the board scale of `s`, the operation goes on from `ensureCache` by `go`. -/
def GoesOnBy (go : State × Except ErrorKind Unit → StepResult) (s : State) (i : Instr) : Prop :=
  ∀ u : State, u.dsmState = .active → u.board = s.board → exec i u = go (ensureCache u)

/-- An operation that depends on the cache goes on after the re-read as from the state that left. -/
theorem GoesOnBy.reread {go : State × Except ErrorKind Unit → StepResult} (h : GoesOnBy go s i)
    (hs : s.dsmState = .active) (hv : s.cacheValid = false) (hq : statusOkAt s 0 q) (hd : answerAt s.env 1 = some d) :
    exec i s = exec i (afterReread q d s) := by
  rw [h s hs rfl, h (afterReread q d s) hs rfl, ensureCache_reread hv hq hd, ensureCache_valid rfl]

theorem GoesOnBy.fails {go : State × Except ErrorKind Unit → StepResult} (h : GoesOnBy go s i)
    (hs : s.dsmState = .active) (hv : s.cacheValid = false)
    (hf : failedTransfer 0 false false (fill32 s.params) s t) : exec i s = go (t, .error .communicationError) := by
  rw [h s hs rfl, ensureCache_fails hv hf]

theorem failedTransfer_managerKept {bank : Bank} {wr n : Bool} {tx : List Byte} (h : failedTransfer bank wr n tx s t) :
    ManagerKept s t := by
  obtain ⟨-, rfl⟩ | ⟨q, -, -, rfl⟩ | ⟨q, -, -, rfl⟩ := h <;> exact ⟨rfl, rfl, rfl, rfl, rfl⟩

/-- An operation that is sequenced after `ensureCache` and depends on the cache in no other way. -/
def Dependent (s : State) (i : Instr) : Prop :=
  ∃ (α : Type) (value : α → Value) (k : Unit → State → State × Except ErrorKind α),
    GoesOnBy (fun p => deliver value (andThen p k)) s i

theorem dependent_configureChannel {ch : Nat} {cfg : ChannelConfig} (hch : ch ≤ 7)
    (hv : validateChannel cfg s.board = .ok ()) : Dependent s (.configureChannel ch cfg) :=
  ⟨_, fun _ => .unit, fun _ => configureAfter ch cfg, fun _ hu hb =>
    congrArg (deliver fun _ => .unit) (configureChannel_active hch hu (hb ▸ hv))⟩

theorem dependent_getChannelConfig {ch : Nat} (hch : ch ≤ 7) : Dependent s (.getChannelConfig ch) :=
  ⟨_, .channelConfig, _, fun _ hu _ => congrArg (deliver .channelConfig) (getChannelConfig_active hch hu)⟩

theorem dependent_setChannelEnabled {ch : Nat} (hch : ch ≤ 7) (on : Bool) : Dependent s (.setChannelEnabled ch on) :=
  ⟨_, fun _ => .unit, _, fun _ hu _ => congrArg (deliver fun _ => .unit) (setChannelEnabled_active hch hu on)⟩

theorem dependent_setPairMode {pair : Nat} {mode : PairMode} (hpair : pair ≤ 3) (hm : mode ≠ .reserved3) :
    Dependent s (.setPairMode pair mode) :=
  ⟨_, fun _ => .unit, fun _ => pairModeAfter pair mode, fun _ hu _ =>
    congrArg (deliver fun _ => .unit) (setPairMode_active hpair hu hm)⟩

theorem dependent_ensureCache (s : State) : Dependent s .ensureCache :=
  ⟨_, fun _ => .unit, fun _ u => done () u, fun u hu _ => by
    have arm : exec .ensureCache u = deliver (fun _ => .unit) (whenActive ensureCache u) := rfl
    rw [arm, whenActive_active hu]
    obtain ⟨v, r⟩ := ensureCache u
    cases r <;> rfl⟩

/-- `deinitialize` goes on to its last writes whatever the re-read answers (D36). -/
theorem goesOnBy_deinitialize (s : State) :
    GoesOnBy (fun p => shutDownEnds (andThen p fun _ => shutDownAfter)) s .deinitialize :=
  fun u hu _ => (exec_deinitialize_active hu).trans (congrArg shutDownEnds (shutDown_eq u))

/-- The operations that depend on the cache (R238). -/
theorem dependent_or_deinitialize {ch pair : Nat} {cfg : ChannelConfig} {on : Bool} {mode : PairMode} (hch : ch ≤ 7)
    (hpair : pair ≤ 3) (hm : mode ≠ .reserved3) (hv : validateChannel cfg s.board = .ok ())
    (hi : i ∈ [Instr.configureChannel ch cfg, .getChannelConfig ch, .setChannelEnabled ch on, .setPairMode pair mode,
      .deinitialize]) : Dependent s i ∧ i ≠ .deinitialize ∨ i = .deinitialize := by
  simp only [List.mem_cons, List.not_mem_nil, or_false] at hi
  obtain rfl | rfl | rfl | rfl | rfl := hi
  · exact .inl ⟨dependent_configureChannel hch hv, nofun⟩
  · exact .inl ⟨dependent_getChannelConfig hch, nofun⟩
  · exact .inl ⟨dependent_setChannelEnabled hch on, nofun⟩
  · exact .inl ⟨dependent_setPairMode hpair hm, nofun⟩
  · exact .inr rfl

theorem Dependent.fails (h : Dependent s i) (hs : s.dsmState = .active) (hv : s.cacheValid = false)
    (hf : failedTransfer 0 false false (fill32 s.params) s t) : exec i s = .next { t with
      cacheValid := false
      result := some (.err .communicationError) } := by
  obtain ⟨α, value, k, h⟩ := h
  have invalid : t.cacheValid = false := (failedTransfer_managerKept hf).cacheValid.trans hv
  rw [h.fails hs hv hf, ← invalid]
  rfl

/-- Every operation that depends on the cache goes on as from the state after the re-read. -/
theorem exec_reread {ch pair : Nat} {cfg : ChannelConfig} {on : Bool} {mode : PairMode} (hs : s.dsmState = .active)
    (hinvalid : s.cacheValid = false) (hch : ch ≤ 7) (hpair : pair ≤ 3) (hm : mode ≠ .reserved3)
    (hv : validateChannel cfg s.board = .ok ())
    (hi : i ∈ [Instr.configureChannel ch cfg, .getChannelConfig ch, .setChannelEnabled ch on, .setPairMode pair mode,
      .deinitialize]) (hq : statusOkAt s 0 q) (hd : answerAt s.env 1 = some d) :
    exec i s = exec i (afterReread q d s) := by
  obtain ⟨⟨α, value, k, h⟩, -⟩ | rfl := dependent_or_deinitialize hch hpair hm hv hi
  · exact h.reread hs hinvalid hq hd
  · exact (goesOnBy_deinitialize s).reread hs hinvalid hq hd

/-- Settles O58: each operation that depends on the cache is `ensureCache` and what goes on from there. -/
theorem dependentOperationsRereadFirst : Obligations.DependentOperationsRereadFirst := by
  have arm (s : State) : exec .ensureCache s = deliver (fun _ => .unit) (whenActive ensureCache s) := rfl
  refine ⟨fun s hs hv => ?_, fun s q d hs hv hq hd => ?_, fun s t hs hv hf => (dependent_ensureCache s).fails hs hv hf,
    fun s ch pair cfg on mode i hs hinvalid hch hpair hm hv hi =>
      ⟨fun q d => exec_reread hs hinvalid hch hpair hm hv hi, fun t hf => ⟨fun hne => ?_, ?_⟩⟩⟩
  · rw [arm, whenActive_active hs, ensureCache_valid hv]
    rfl
  · rw [arm, whenActive_active hs, ensureCache_reread hv hq hd]
    rfl
  · obtain ⟨h, -⟩ | h := dependent_or_deinitialize hch hpair hm hv hi
    · exact h.fails hs hinvalid hf
    · exact absurd h hne
  · rintro rfl
    exact (goesOnBy_deinitialize s).fails hs hinvalid hf

/-- What a write that bypasses the manager leaves: the cache is invalid, the sequencer and the board scale are as they
were (R235, R243). -/
theorem bypassWrite_leaves {w : Word} {b : Byte} {n : Bool}
    (hi : i ∈ [.rawWriteRegister 0 w, .writeReg32 0 w, .wr32 0 w, .writeReg8 0 b, .wr8 0 b, .writeCommand 0 true n])
    (hraw : i = .rawWriteRegister 0 w → s.dsmState = .active) (h : exec i s = .next t) :
    t.cacheValid = false ∧ t.dsmState = s.dsmState ∧ t.board = s.board := by
  have engine (j : Instr) (hj : j ∈ [.wr32 0 w, .wr8 0 b, .writeCommand 0 true n, .writeReg32 0 w, .writeReg8 0 b])
      (h : exec j s = .next t) : t.cacheValid = false ∧ t.dsmState = s.dsmState ∧ t.board = s.board := by
    obtain ⟨-, hboard, hdsm, -, hvalid, -⟩ :=
      engineLeavesManagerState 0 w b default true n j s t (by simp only [List.mem_cons] at hj ⊢; tauto) h
    exact ⟨hvalid hj, hdsm, hboard⟩
  simp only [List.mem_cons, List.not_mem_nil, or_false] at hi
  obtain rfl | hi := hi
  · exact engine (.wr32 0 w) (by simp) ((exec_rawWriteRegister (hraw rfl) (by decide) (by decide) w).symm.trans h)
  · exact engine i (by simp only [List.mem_cons]; tauto) h

/-- Settles O59: after such a write the cache is invalid, so the re-read comes first. -/
theorem bypassWriteForcesReread : Obligations.BypassWriteForcesReread := by
  intro s t w b n i hi hraw h
  obtain ⟨hinvalid, hdsm, hboard⟩ := bypassWrite_leaves hi hraw h
  exact ⟨hinvalid, fun ch pair cfg on mode j q d hs hch hpair hm hv hj hq hd =>
    exec_reread (hdsm.trans hs) hinvalid hch hpair hm (hboard ▸ hv) hj hq hd⟩

end Sys2Proof.Machine

/-! Operations of the manager that fail: what they leave of its state, and their own failed transfer (R225 to R242,
R279). -/

namespace Sys2Proof.Machine

variable {α β : Type} {s t : State} {ch pair : Nat} {mode : PairMode} {bank : Bank} {i : Instr}

/-! ### What an error leaves of the manager's state -/

/-- If the operation answers an error, the manager's state is as it was. -/
def ErrorKeeps (s : State) (p : State × Except ErrorKind α) : Prop := ∀ k, p.2 = .error k → ManagerKept s p.1

theorem Ended.errorKeeps {p : State × Except ErrorKind α} (h : Ended [.wire] s p) : ErrorKeeps s p :=
  fun _ _ => h.moves.managerKept

theorem errorKeeps_raise (k : ErrorKind) (s : State) : ErrorKeeps s (raise k s : State × Except ErrorKind α) :=
  fun _ _ => .refl s

theorem errorKeeps_whenActive {f : State → State × Except ErrorKind α} (h : ErrorKeeps s (f s)) :
    ErrorKeeps s (whenActive f s) := by
  cases hs : s.dsmState with
  | uninitialized =>
    rw [whenActive_uninitialized hs]
    exact errorKeeps_raise _ s
  | active => rwa [whenActive_active hs]

theorem errorKeeps_whenIndex {ok : Bool} {f : State → State × Except ErrorKind α} (h : ErrorKeeps s (f s)) :
    ErrorKeeps s (whenIndex ok f s) := by
  cases ok with
  | false => exact errorKeeps_raise _ s
  | true => exact h

/-- What is written after a transfer is written only when it was answered. -/
theorem errorKeeps_andThen_done {p : State × Except ErrorKind α} {value : α → State → β} {write : α → State → State}
    (h : ErrorKeeps s p) : ErrorKeeps s (andThen p fun a u => done (value a u) (write a u)) := by
  obtain ⟨u, r⟩ := p
  cases r with
  | error k => exact fun _ _ => h k rfl
  | ok a => exact nofun

theorem errorKeeps_setChannelsOn (mask : Byte) (s : State) : ErrorKeeps s (setChannelsOn mask s) :=
  errorKeeps_whenActive (errorKeeps_andThen_done (ended_writeReg8 0 mask s).errorKeeps)

/-! ### Errors of the operations that depend on the cache, where it is valid -/

theorem errorKeeps_configureAfter (ch : Nat) (cfg : ChannelConfig) (s : State) :
    ErrorKeeps s (configureAfter ch cfg s) := by
  unfold configureAfter
  split
  · exact errorKeeps_raise _ s
  · exact (ended_writeReg32 _ _ s).errorKeeps

theorem errorKeeps_pairModeAfter (pair : Nat) (mode : PairMode) (s : State) :
    ErrorKeeps s (pairModeAfter pair mode s) := by
  unfold pairModeAfter
  split
  · exact errorKeeps_raise _ s
  · exact errorKeeps_andThen_done (ended_writeReg32 0 _ s).errorKeeps

/-- With a valid cache there is no re-read, so nothing has been done when the rest of the operation begins (R238). -/
theorem errorKeeps_ensureCache {k : State → State × Except ErrorKind α} (hv : s.cacheValid = true)
    (h : ErrorKeeps s (k s)) : ErrorKeeps s (andThen (ensureCache s) fun _ => k) := by
  rwa [ensureCache_valid hv, andThen_ok]

theorem errorKeeps_configureChannel (ch : Nat) (cfg : ChannelConfig) (hv : s.cacheValid = true) :
    ErrorKeeps s (configureChannel ch cfg s) := by
  refine errorKeeps_whenIndex (errorKeeps_whenActive ?_)
  split
  · exact errorKeeps_raise _ s
  · exact errorKeeps_ensureCache hv (errorKeeps_configureAfter ch cfg s)

theorem errorKeeps_getChannelConfig (ch : Nat) (hv : s.cacheValid = true) : ErrorKeeps s (getChannelConfig ch s) :=
  errorKeeps_whenIndex (errorKeeps_whenActive (errorKeeps_ensureCache hv
    (errorKeeps_andThen_done (write := fun _ u => u) (ended_readReg32 (channelBank ch) s).errorKeeps)))

theorem errorKeeps_setChannelEnabled (ch : Nat) (on : Bool) (hv : s.cacheValid = true) :
    ErrorKeeps s (setChannelEnabled ch on s) :=
  errorKeeps_whenIndex (errorKeeps_whenActive (errorKeeps_ensureCache hv
    (k := fun u => setChannelsOn (switchChannel u.cache.channelsOn ch on) u) (errorKeeps_setChannelsOn _ s)))

theorem errorKeeps_setPairMode (pair : Nat) (mode : PairMode) (hv : s.cacheValid = true) :
    ErrorKeeps s (setPairMode pair mode s) := by
  refine errorKeeps_whenIndex (errorKeeps_whenActive ?_)
  split
  · exact errorKeeps_raise _ s
  · exact errorKeeps_ensureCache hv (errorKeeps_pairModeAfter pair mode s)

theorem errorKeeps_readStatus (s : State) : ErrorKeeps s (readStatus s) :=
  errorKeeps_whenActive (errorKeeps_andThen_done (ended_readReg32 0 s).errorKeeps)

/-- Handing the host the result writes nothing of the manager's state. -/
theorem ErrorKeeps.managerKept {p : State × Except ErrorKind α} (h : ErrorKeeps s p) (value : α → Value) {k : ErrorKind}
    (ht : deliver value p = .next t) (hk : t.result = some (.err k)) : ManagerKept s t := by
  cases ht
  obtain ⟨cache, cacheValid, board, dsmState, enable⟩ := h k (resultOf_err (Option.some.inj hk))
  exact ⟨cache, cacheValid, board, dsmState, enable⟩

/-- The operations of the manager that keep its state when they answer an error. -/
theorem managerKept_of_error {cfg : ChannelConfig} {on : Bool} {mask : Byte} {d : DpmConfig} {k : ErrorKind}
    (hi : i ∈ [Instr.configureChannel ch cfg, .getChannelConfig ch, .setChannelsOn mask, .setChannelEnabled ch on,
      .setPairMode pair mode, .readStatus, .readFaults, .getDpmConfig, .setDpmConfig d, .rawReadRegister bank])
    (hv : i ∈ [Instr.configureChannel ch cfg, .getChannelConfig ch, .setChannelEnabled ch on, .setPairMode pair mode] →
      s.cacheValid = true)
    (ht : exec i s = .next t) (hk : t.result = some (.err k)) : ManagerKept s t := by
  simp only [List.mem_cons, List.not_mem_nil, or_false] at hi
  obtain rfl | rfl | rfl | rfl | rfl | rfl | rfl | rfl | rfl | rfl := hi
  · exact (errorKeeps_configureChannel ch cfg (hv (by simp))).managerKept _ ht hk
  · exact (errorKeeps_getChannelConfig ch (hv (by simp))).managerKept _ ht hk
  · exact (errorKeeps_setChannelsOn mask s).managerKept _ ht hk
  · exact (errorKeeps_setChannelEnabled ch on (hv (by simp))).managerKept _ ht hk
  · exact (errorKeeps_setPairMode pair mode (hv (by simp))).managerKept _ ht hk
  · exact (errorKeeps_readStatus s).managerKept _ ht hk
  · exact (ended_readFaults s).errorKeeps.managerKept _ ht hk
  · exact (ended_getDpmConfig s).errorKeeps.managerKept _ ht hk
  · exact (ended_setDpmConfig d s).errorKeeps.managerKept _ ht hk
  · exact (ended_rawReadRegister bank s).errorKeeps.managerKept _ ht hk

/-! ### The failed transfer of each operation -/

theorem setChannelsOn_fails (hs : s.dsmState = .active) {mask : Byte} (hf : failedTransfer 0 true true [mask] s t) :
    setChannelsOn mask s = (t, .error .communicationError) := by
  rw [setChannelsOn_active hs, writeReg8_fails rfl hf, andThen_error]

theorem readStatus_fails (hs : s.dsmState = .active) (hf : failedTransfer 0 false false (fill32 s.params) s t) :
    readStatus s = (t, .error .communicationError) := by
  rw [readStatus, whenActive_active hs, readReg32_fails rfl hf, andThen_error]

theorem readFaults_fails (hs : s.dsmState = .active) (hf : failedTransfer 9 false false (fill32 s.params) s t) :
    readFaults s = (t, .error .communicationError) := by
  rw [readFaults, whenActive_active hs, readReg32_fails rfl hf, andThen_error]

theorem getDpmConfig_fails (hs : s.dsmState = .active) (hf : failedTransfer 10 false false (fill32 s.params) s t) :
    getDpmConfig s = (t, .error .communicationError) := by
  rw [getDpmConfig, whenActive_active hs, readReg32_fails rfl hf, andThen_error]

theorem setDpmConfig_fails (hs : s.dsmState = .active) {d : DpmConfig}
    (hf : failedTransfer 10 true false (quadBytes (data32wBytes (packDpm d))) s t) :
    setDpmConfig d s = (t, .error .communicationError) := by
  rw [setDpmConfig, whenActive_active hs, writeReg32_fails rfl hf]

theorem rawReadRegister_fails (hs : s.dsmState = .active) (hb : bank.toNat ≤ 10)
    (hf : failedTransfer bank false false (fill32 s.params) s t) :
    rawReadRegister bank s = (t, .error .communicationError) := by
  rw [rawReadRegister, bankValid_iff.2 hb, whenIndex_true, whenActive_active hs,
    readReg32_fails (bankValid_iff.2 hb) hf]

/-- A raw write has invalidated the cache before its transfer (R235). -/
theorem exec_rawWriteRegister_fails (hs : s.dsmState = .active) (hb : bank.toNat ≤ 10) (h9 : bank ≠ 9) {w : Word}
    (hf : failedTransfer bank true false (quadBytes (data32wBytes w)) s t) :
    exec (.rawWriteRegister bank w) s = .next { t with
      cacheValid := s.cacheValid && bank != 0
      result := some (.err .communicationError) } := by
  rw [exec_rawWriteRegister hs hb h9, (runs_wr32 bank w).fails hb hf]
  rfl

theorem configureChannel_fails (hs : s.dsmState = .active) (hvalid : s.cacheValid = true) (hch : ch ≤ 7)
    {cfg : ChannelConfig} {w : Word} (hv : validateChannel cfg s.board = .ok ())
    (hw : encodeChannel s.params cfg (contextOf s) s.board = .ok w)
    (hf : failedTransfer (channelBank ch) true false (quadBytes (data32wBytes w)) s t) :
    configureChannel ch cfg s = (t, .error .communicationError) := by
  have encoded : configureAfter ch cfg s = writeReg32 (channelBank ch) w s := by simp only [configureAfter, hw]
  rw [configureChannel_active hch hs hv, ensureCache_valid hvalid, andThen_ok, encoded,
    writeReg32_fails (bankValid_channelBank hch) hf]

theorem getChannelConfig_fails (hs : s.dsmState = .active) (hvalid : s.cacheValid = true) (hch : ch ≤ 7)
    (hf : failedTransfer (channelBank ch) false false (fill32 s.params) s t) :
    getChannelConfig ch s = (t, .error .communicationError) := by
  rw [getChannelConfig_active hch hs, ensureCache_valid hvalid, andThen_ok,
    readReg32_fails (bankValid_channelBank hch) hf, andThen_error]

theorem eq_switchChannel {mask old : Byte} {on : Bool}
    (h : ∀ k, k < 8 → mask.getLsbD k = if k = ch then on else old.getLsbD k) : mask = switchChannel old ch on :=
  BitVec.eq_of_getLsbD_eq fun k hk => (h k hk).trans (getLsbD_switchChannel old on hk).symm

theorem setChannelEnabled_fails (hs : s.dsmState = .active) (hvalid : s.cacheValid = true) (hch : ch ≤ 7) {on : Bool}
    (hf : failedTransfer 0 true true [switchChannel s.cache.channelsOn ch on] s t) :
    setChannelEnabled ch on s = (t, .error .communicationError) := by
  rw [setChannelEnabled_active hch hs, ensureCache_valid hvalid, andThen_ok, setChannelsOn_fails hs hf]

theorem setPairMode_fails (hs : s.dsmState = .active) (hvalid : s.cacheValid = true) (hpair : pair ≤ 3)
    (hm : mode ≠ .reserved3) (hoff : pairOn pair s.cache = false)
    (hf : failedTransfer 0 true false (quadBytes (data32wBytes (packStatus (statusWithPair pair mode s.cache)))) s t) :
    setPairMode pair mode s = (t, .error .communicationError) := by
  rw [setPairMode_active hpair hs hm, ensureCache_valid hvalid, andThen_ok, pairModeAfter, hoff,
    if_neg Bool.false_ne_true, writeReg32_fails rfl hf, andThen_error]

/-- Settles O60: an error is answered before anything of the manager's state is written, and a failed transfer of an
operation is the state that the operation ends in. -/
theorem failedTransferKeepsManagerState : Obligations.FailedTransferKeepsManagerState := by
  refine ⟨fun s t ch pair cfg on mode mask d bank k i hi hv ht hk => ?_, fun s t hs => ?_⟩
  · obtain ⟨cache, cacheValid, board, dsmState, enable⟩ := managerKept_of_error hi hv ht hk
    exact ⟨cache, cacheValid, board, dsmState, enable⟩
  · refine ⟨fun mask hf => congrArg (deliver _) (setChannelsOn_fails hs hf),
      fun hf => congrArg (deliver _) (readStatus_fails hs hf),
      fun hf => congrArg (deliver _) (readFaults_fails hs hf),
      fun hf => congrArg (deliver _) (getDpmConfig_fails hs hf),
      fun d hf => congrArg (deliver _) (setDpmConfig_fails hs hf),
      fun bank hb hf => congrArg (deliver _) (rawReadRegister_fails hs hb hf),
      fun bank w hb h9 hf => exec_rawWriteRegister_fails hs hb h9 hf,
      fun hvalid => ⟨fun ch cfg w hch hv hw hf => congrArg (deliver _) (configureChannel_fails hs hvalid hch hv hw hf),
        fun ch hch hf => congrArg (deliver _) (getChannelConfig_fails hs hvalid hch hf),
        fun ch on mask hch hmask hf => ?_, fun pair mode x hpair hm hoff hoff' hx hother hy hf => ?_⟩⟩
    · exact congrArg (deliver _) (setChannelEnabled_fails hs hvalid hch (eq_switchChannel hmask ▸ hf))
    · have off : pairOn pair s.cache = false := by rw [pairOn, hoff, hoff', Bool.or_false]
      exact congrArg (deliver _) (setPairMode_fails hs hvalid hpair hm off (eq_statusWithPair hpair hx hother hy ▸ hf))

end Sys2Proof.Machine
